-- ==== Sys2Proof/Word.lean ====
section
/-! DEFINITION. The two word types of the core: bytes and 16-bit words (spec/00_scope.md R6). -/

namespace Sys2Proof

/-- An 8-bit value, the `u8` of R10: a register, a memory byte, an immediate `n` or `e`. -/
abbrev Byte := BitVec 8

/-- A 16-bit value, the `u16` of R10: a register pair, SP, PC, an address, an immediate `nn`. -/
abbrev Word := BitVec 16

end Sys2Proof
end

