-- ==== Sys2Proof/WellFormed.lean ====
section
/-! DEFINITION. Which terms of `Instr` are whole instructions. Every immediate has exactly the width of its
encoding, so the one term to refuse is the `0xCB` prefix standing for an instruction of its own. -/

namespace Sys2Proof

/-- The term is the prefix row of the opcode table: "a prefix, not an instruction" (spec/45_system.md R376). -/
def Instr.isPrefixRow : Instr → Bool
  | .prefixCB _ => true
  | _ => false

/-- The term is a whole instruction that decoding can give (R131, R376): everything but the prefix row. -/
def Instr.wellFormed (i : Instr) : Bool :=
  !i.isPrefixRow

end Sys2Proof
end

