-- ==== Sys2Proof/Config.lean ====
section
/-! DEFINITION. The named parameters of spec/00_scope.md R9, the calls of the peripheral interface of
spec/20_memory.md R95, and the free values: constants without a body, of which nothing can be proved. -/

namespace Sys2Proof.Config

/-- `MBC1_MODE_WRITE` (R83, D9): what a write to `0x6000-0x7FFF` does to `mode`. -/
inductive Mbc1ModeWrite where
  /-- `mode <- not mode`, whatever the value written is. -/
  | toggle
  /-- `mode <- (val & 0x01) == 1`. -/
  | bit0
  deriving DecidableEq, Repr, Inhabited

/-- `CHECKSUM_FORM` (R453, D13): how the header checksum is computed at launch. -/
inductive ChecksumForm where
  /-- One subtraction of 1 for each byte summed; the default. -/
  | perByte
  /-- The source's formula word for word: one subtraction of 1 in all. -/
  | literal
  deriving DecidableEq, Repr

/-- The parameters a step reads (R9). They are configuration: the state holds them and no step writes them. -/
structure Params where
  /-- `MBC1_MODE_WRITE`. -/
  mbc1ModeWrite : Mbc1ModeWrite
  /-- `EI_DELAY = 1` is `true` (R374, D21). -/
  eiDelay : Bool
  /-- `INT_DISPATCH_CYCLES` (R410, D19). -/
  intDispatchCycles : Nat
  /-- `DMA_CYCLES` (R92, D17). -/
  dmaCycles : Nat
  deriving DecidableEq, Repr

/-- The parameter `MBC1_MODE_WRITE` is OPEN (R83): a constant that no proof can see. -/
opaque openModeWrite : Mbc1ModeWrite

/-- The parameter `DMA_CYCLES` is OPEN (R92): a constant that no proof can see. -/
opaque openDmaCycles : Nat

/-- The parameters at launch: the defaults of R9 where it gives one, the open constants where it gives none. -/
def defaultParams : Params :=
  { mbc1ModeWrite := openModeWrite, eiDelay := false, intDispatchCycles := 20, dmaCycles := openDmaCycles }

/-- `HALT_CYCLES = 4`, fixed by the source (R9, R420). -/
def haltCycles : Nat := 4

/-- A call of the core that PERIPH may change its own state on (R95). `read` and `locked` are not among them:
a PERIPH read is side-effect free (R77). -/
inductive PeriphCall where
  /-- `PERIPH.write(addr, val)`. -/
  | write (addr : Word) (val : Byte)
  /-- `PERIPH.oam_dma_write(i, b)`. -/
  | oamDma (i : Nat) (b : Byte)
  /-- `PERIPH.update(ticks)`. -/
  | update (ticks : Nat)
  deriving DecidableEq, Repr

/-- What `PERIPH.read(addr)` returns after the calls so far, newest first (R95, D16: unconstrained). -/
opaque periphRead : List PeriphCall → Word → Byte

/-- What `PERIPH.locked()` returns after the calls so far, newest first (R95, D16: unconstrained). -/
opaque periphLocked : List PeriphCall → Bool

/-- The `irq5` set the newest call returns, that call being the head of the list (R95, D16: unconstrained). -/
opaque periphRequests : List PeriphCall → BitVec 5

end Sys2Proof.Config
end

