-- ==== Sys2Proof/Machine/State.lean ====
section
/-! DEFINITION. The machine's state as plain data (spec/10_state.md), the reasons a step can stop, and the state
right after reset (R49). -/

namespace Sys2Proof.Machine

/-- The contents of one storage: pairs of an index into it and the byte there, in the canonical form `Memory.wf`
(indices strictly rising, no entry equal to the byte an unlisted index reads as). -/
abbrev Memory := List Host.Cell

/-- The register file: eight 8-bit slots (R30). -/
structure Regs where
  a : Byte
  f : Byte
  b : Byte
  c : Byte
  d : Byte
  e : Byte
  h : Byte
  l : Byte
  deriving DecidableEq, Repr

/-- The hidden registers of the MBC1 bank controller (R46). -/
structure Mbc1 where
  /-- `ram_enable`. -/
  ramEnable : Bool
  /-- `bank_no_lower`. -/
  bankLower : BitVec 5
  /-- `bank_no_upper`. -/
  bankUpper : BitVec 2
  /-- `mode`: `false` ROM-banking, `true` RAM-banking (D8). -/
  mode : Bool
  deriving DecidableEq, Repr

/-- The display and audio peripheral as the core can know it (R47, R95). -/
inductive Periph where
  /-- The peripheral of the proof model (D16): its answers are the free values of `Config` applied to the calls the
  core has made so far, newest first. Every peripheral whose reads have no side effect (R77) is one of these. -/
  | free (calls : List Config.PeriphCall)
  /-- The reference peripheral of spec/95_test_vectors.md section 0.1: plain storage by address, never locked, no
  requests. -/
  | reference (cells : Memory)
  deriving DecidableEq, Repr

/-- The cycle counter of one step, in T-cycles: "for the instruction just executed (and, separately, for any
interrupt dispatch)" (R42), and for the DMA of R92. The step returns their sum (R423). -/
structure Cycles where
  instruction : Nat
  dma : Nat
  dispatch : Nat
  deriving DecidableEq, Repr

/-- What the core holds between steps (R30 to R49). -/
structure State where
  /-- The register file (R30). -/
  regs : Regs
  /-- Stack pointer (R35). -/
  sp : Word
  /-- Program counter (R36). -/
  pc : Word
  /-- Interrupt Master Enable (R37). -/
  ime : Bool
  /-- The run state: *Halted* is `true`, *Running* is `false` (R38). -/
  halted : Bool
  /-- `EI_pending` (R41); stays `false` while `EI_DELAY` is 0. -/
  eiPending : Bool
  /-- IF, at `0xFF0F` (R39). -/
  ifReg : Byte
  /-- IE, at `0xFFFF` (R39). -/
  ieReg : Byte
  /-- The MBC1 registers (R46). -/
  mbc : Mbc1
  /-- The cartridge ROM by offset (R45). -/
  rom : Memory
  /-- `ROM_SIZE_CODE`, 0 to 8 (R8, R452). -/
  romSizeCode : Fin 9
  /-- The cartridge RAM by offset (R45). -/
  cartRam : Memory
  /-- `RAM_SIZE_CODE`, 0 to 5 (R8, R455). -/
  ramSizeCode : Fin 6
  /-- Work RAM by index (R44). -/
  wram : Memory
  /-- High RAM by index (R44). -/
  hram : Memory
  /-- The peripheral (R47). -/
  periph : Periph
  /-- The cycle counter of the last step (R42). -/
  cycles : Cycles
  /-- The parameters of R9; no step writes them. -/
  params : Config.Params
  deriving DecidableEq, Repr

/-- Why launch refuses a ROM image (R401, `MALFORMED_ROM`). -/
inductive RomDefect where
  | length
  | romSizeCode
  | checksum
  | cartType
  | ramSizeCode
  deriving DecidableEq, Repr

/-- The fatal conditions of R401, each with the detail the rule gives. All of them are the spec's own: the machine
reports them, so stopping there is safe. -/
inductive Fault where
  /-- `UNDEFINED_OPCODE`: raised by the eleven undefined opcodes (R375). Safe: the spec's fault. -/
  | undefinedOpcode (op : Byte)
  /-- `UNREACHABLE_DECODE`: the decode branch no byte reaches (R133). Safe: the spec's fault, never raised. -/
  | unreachableDecode (op : Byte)
  /-- `DECODE_PAST_END`: raised by fetching an instruction byte beyond `0xFFFF` (R121). Safe: the spec's fault. -/
  | decodePastEnd (addr : Word)
  /-- `UNMAPPED_ADDRESS`: raised by any bus access to `0xFF4C-0xFF7F` (R64). Safe: the spec's fault. -/
  | unmappedAddress (addr : Word)
  /-- `EXTRAM_OUT_OF_RANGE`: raised by an enabled access to external RAM that is absent or too small (R88). Safe:
  the spec's fault. -/
  | extramOutOfRange (addr : Word)
  /-- `UNMODELLED_STOP`: raised by STOP (R371). Safe: the spec's fault. -/
  | unmodelledStop (addr : Word)
  /-- `MALFORMED_ROM`: raised by launch only (R450 to R455). Safe: the spec's fault. -/
  | malformedRom (defect : RomDefect)
  deriving DecidableEq, Repr

/-- What the model does not execute. -/
inductive Refusal where
  /-- An instruction that has no meaning yet, raised by its arm in Dispatch. Safe: nothing is claimed of it. -/
  | notModelled (mnemonic : String)
  deriving DecidableEq, Repr

/-- The outcome of an instruction or a step. -/
abbrev Out := Host.Outcome State Fault Refusal

/-- The default of the parameter `RESET_REGS` (R49, D5). -/
def Regs.reset : Regs :=
  { a := 0x01, f := 0xB0, b := 0x00, c := 0x13, d := 0x00, e := 0xD8, h := 0x01, l := 0x4D }

/-- The reset values of the MBC1 registers (R49, D7). -/
def Mbc1.reset : Mbc1 :=
  { ramEnable := false, bankLower := 0, bankUpper := 0, mode := false }

/-- The machine right after launch (R49), with no image loaded into any storage: every byte reads as
`Memory.unlisted`, and the size codes are those of a header of such bytes (log entries 4 and 5). -/
def State.reset : State :=
  { regs := Regs.reset
    sp := 0xFFFE
    pc := 0x0100
    ime := false
    halted := false
    eiPending := false
    ifReg := 0x00
    ieReg := 0x00
    mbc := Mbc1.reset
    rom := []
    romSizeCode := 0
    cartRam := []
    ramSizeCode := 0
    wram := []
    hram := []
    periph := .free []
    cycles := { instruction := 0, dma := 0, dispatch := 0 }
    params := Config.defaultParams }

end Sys2Proof.Machine
end

