-- ==== Sys2Proof/Machine/Memory.lean ====
section
/-! DEFINITION. Reading and writing one storage, and the canonical form every operation keeps. -/

namespace Sys2Proof.Machine

/-- What an index reads as that no write has reached and no image lists: `0x00`, as the launch images of
spec/95_test_vectors.md section 0.2 have it (log entry 4). -/
def Memory.unlisted : Byte := 0x00

/-- The byte at an index. -/
def Memory.read : Memory → Nat → Byte
  | [], _ => Memory.unlisted
  | cell :: rest, k => if cell.1 = k then cell.2 else Memory.read rest k

/-- The storage without any entry for an index. -/
def Memory.erase : Memory → Nat → Memory
  | [], _ => []
  | cell :: rest, k => if cell.1 = k then Memory.erase rest k else cell :: Memory.erase rest k

/-- The storage with an entry put before the first larger index. -/
def Memory.insert : Memory → Nat → Byte → Memory
  | [], k, v => [(k, v)]
  | cell :: rest, k, v => if k < cell.1 then (k, v) :: cell :: rest else cell :: Memory.insert rest k v

/-- The storage after a byte is stored at an index; the unlisted byte removes the entry. -/
def Memory.write (m : Memory) (k : Nat) (v : Byte) : Memory :=
  if v = Memory.unlisted then m.erase k else (m.erase k).insert k v

/-- The canonical form: indices strictly rising and no entry equal to the unlisted byte. -/
abbrev Memory.wf (m : Memory) : Prop :=
  m.Pairwise (fun x y => x.1 < y.1) ∧ ∀ cell ∈ m, cell.2 ≠ Memory.unlisted

/-- Every entry lies inside a storage of `size` bytes. -/
abbrev Memory.within (m : Memory) (size : Nat) : Prop :=
  ∀ cell ∈ m, cell.1 < size

/-- The storage of `size` bytes an image gives: its entries stored in order, those outside the storage left out. -/
def Memory.load (size : Nat) (image : List Host.Cell) : Memory :=
  image.foldl (fun m cell => if cell.1 < size then m.write cell.1 cell.2 else m) []

end Sys2Proof.Machine
end

