-- ==== Sys2Proof/Machine/Periph.lean ====
section
/-! DEFINITION. The five calls of the peripheral interface (spec/20_memory.md R95). -/

namespace Sys2Proof.Machine

/-- `PERIPH.read(addr)`. -/
def Periph.read (p : Periph) (a : Word) : Byte :=
  match p with
  | .free calls => Config.periphRead calls a
  | .reference cells => cells.read a.toNat

/-- `PERIPH.locked()`: the display is in pixel-transfer mode (R66). -/
def Periph.locked (p : Periph) : Bool :=
  match p with
  | .free calls => Config.periphLocked calls
  | .reference _ => false

/-- `PERIPH.write(addr, val)`: the peripheral after the call and the requests the call returns. -/
def Periph.write (p : Periph) (a : Word) (v : Byte) : Periph × BitVec 5 :=
  match p with
  | .free calls => (.free (.write a v :: calls), Config.periphRequests (.write a v :: calls))
  | .reference cells => (.reference (cells.write a.toNat v), 0)

/-- `PERIPH.oam_dma_write(i, b)`. -/
def Periph.oamDmaWrite (p : Periph) (i : Nat) (v : Byte) : Periph :=
  match p with
  | .free calls => .free (.oamDma i v :: calls)
  | .reference cells => .reference (cells.write (0xFE00 + i) v)

/-- `PERIPH.update(ticks)`: the peripheral after the call and the requests the call returns. -/
def Periph.update (p : Periph) (ticks : Nat) : Periph × BitVec 5 :=
  match p with
  | .free calls => (.free (.update ticks :: calls), Config.periphRequests (.update ticks :: calls))
  | .reference cells => (.reference cells, 0)

end Sys2Proof.Machine
end

