-- ==== Sys2Proof/Machine/Bus.lean ====
section
/-! DEFINITION. The bus: the address decoder (spec/20_memory.md R61), the MBC1 bank controller (R80 to R89), the
OAM DMA (R90), and the one-byte read and write that every access goes through (R12, R60). -/

namespace Sys2Proof.Machine

/-! ## The address decoder -/

/-- The target of an address, with the index inside it. The echo of R69 is the work RAM it mirrors, so two
addresses of one stored byte have one target. -/
inductive Target where
  | dmaTrigger
  | intFlag
  | intEnable
  | romFixed (i : Nat)
  | romSwitch (i : Nat)
  | vram
  | extRam (i : Nat)
  | wram (i : Nat)
  | oam
  | unmapped
  | audio
  | display
  | hole
  | hram (i : Nat)
  deriving DecidableEq, Repr

/-- The routing of R61, first match from the top, both ends inclusive (R62). -/
def route (a : Word) : Target :=
  let n := a.toNat
  if n = 0xFF46 then .dmaTrigger
  else if n = 0xFF0F then .intFlag
  else if n = 0xFFFF then .intEnable
  else if n ≤ 0x3FFF then .romFixed n
  else if n ≤ 0x7FFF then .romSwitch (n - 0x4000)
  else if n ≤ 0x9FFF then .vram
  else if n ≤ 0xBFFF then .extRam (n - 0xA000)
  else if n ≤ 0xDFFF then .wram (n - 0xC000)
  else if n ≤ 0xFDFF then .wram (n - 0xE000)
  else if n ≤ 0xFE9F then .oam
  else if n ≤ 0xFF0E then .unmapped
  else if n ≤ 0xFF26 then .audio
  else if n ≤ 0xFF2F then .unmapped
  else if n ≤ 0xFF3F then .audio
  else if n ≤ 0xFF4B then .display
  else if n ≤ 0xFF7F then .hole
  else .hram (n - 0xFF80)

/-! ## The cartridge and its bank controller -/

/-- `num_rom_banks = 2 << ROM_SIZE_CODE` (R89). -/
def State.numRomBanks (s : State) : Nat := 2 <<< s.romSizeCode.val

/-- The length of `rom`: `32 KiB << ROM_SIZE_CODE` (R8). -/
def State.romLength (s : State) : Nat := 0x8000 <<< s.romSizeCode.val

/-- The length of `ram` in bytes by RAM size code: 0, 2, 8, 32, 128, 64 KiB (R8). -/
def ramLengthOf : Nat → Nat
  | 0 => 0
  | 1 => 0x800
  | 2 => 0x2000
  | 3 => 0x8000
  | 4 => 0x20000
  | _ => 0x10000

/-- The length of `ram` in bytes. -/
def State.ramLength (s : State) : Nat := ramLengthOf s.ramSizeCode.val

/-- `num_ram_banks` by RAM size code (R89): the size in KiB divided by 8, rounded up. -/
def numRamBanksOf : Nat → Nat
  | 0 => 0
  | 1 => 1
  | 2 => 1
  | 3 => 4
  | 4 => 16
  | _ => 8

/-- `num_ram_banks` (R89). -/
def State.numRamBanks (s : State) : Nat := numRamBanksOf s.ramSizeCode.val

/-- The bank number before the correction and the mask (R84). -/
def State.rawRomBank (s : State) : Nat :=
  if s.mbc.mode = false then (s.mbc.bankUpper.toNat <<< 5) ||| s.mbc.bankLower.toNat else s.mbc.bankLower.toNat

/-- The correction of the bank numbers 0x00, 0x20, 0x40, 0x60, the "hardware quirk" of R84. -/
def correctBank (raw : Nat) : Nat :=
  if raw = 0x00 ∨ raw = 0x20 ∨ raw = 0x40 ∨ raw = 0x60 then raw + 1 else raw

/-- `rom_bank`, the effective ROM bank of `0x4000-0x7FFF` (R84). -/
def State.romBank (s : State) : Nat := correctBank s.rawRomBank &&& (s.numRomBanks - 1)

/-- `ram_bank`, the effective RAM bank (R87). -/
def State.ramBank (s : State) : Nat :=
  (if s.mbc.mode = true then s.mbc.bankUpper.toNat else 0) &&& (s.numRamBanks - 1)

/-- The ROM offset of window index `i` of `0x4000-0x7FFF` (R86). -/
def State.romOffset (s : State) (i : Nat) : Nat := s.romBank * 0x4000 + i

/-- The RAM offset of window index `i` of `0xA000-0xBFFF` (R88). -/
def State.ramOffset (s : State) (i : Nat) : Nat := s.ramBank * 0x2000 + i

/-- What an access to window index `i` of the external RAM reaches (R88): nothing while disabled, else an offset,
or the fatal condition of an absent or too small RAM, for the address `a` accessed. -/
def State.extRamAccess (s : State) (a : Word) (i : Nat) : Except Fault (Option Nat) :=
  if s.mbc.ramEnable = false then .ok none
  else if s.numRamBanks = 0 then .error (.extramOutOfRange a)
  else if s.ramOffset i < s.ramLength then .ok (some (s.ramOffset i))
  else .error (.extramOutOfRange a)

/-- A write to `0x6000-0x7FFF` under the parameter `MBC1_MODE_WRITE` (R83). -/
def nextMode (w : Config.Mbc1ModeWrite) (mode : Bool) (v : Byte) : Bool :=
  match w with
  | .toggle => !mode
  | .bit0 => v.getLsbD 0

/-- The MBC1 registers after a write of `v` to the ROM address `n` (R80 to R83). -/
def Mbc1.write (m : Mbc1) (w : Config.Mbc1ModeWrite) (n : Nat) (v : Byte) : Mbc1 :=
  if n ≤ 0x1FFF then { m with ramEnable := v &&& 0x0F == 0x0A }
  else if n ≤ 0x3FFF then { m with bankLower := v.setWidth 5 }
  else if n ≤ 0x5FFF then { m with bankUpper := v.setWidth 2 }
  else { m with mode := nextMode w m.mode v }

/-- The state after a bus write of `v` to the ROM address `n`. -/
def State.mbcWrite (s : State) (n : Nat) (v : Byte) : State :=
  { s with mbc := s.mbc.write s.params.mbc1ModeWrite n v }

/-! ## Reading -/

/-- `MemRead(addr, 1)`: one bus read (R12, R61). It changes no state (R77). -/
def busRead (s : State) (a : Word) : Except Fault Byte :=
  match route a with
  | .dmaTrigger => .ok (s.periph.read a)
  | .intFlag => .ok s.ifReg
  | .intEnable => .ok s.ieReg
  | .romFixed i => .ok (s.rom.read i)
  | .romSwitch i => .ok (s.rom.read (s.romOffset i))
  | .vram => .ok (if s.periph.locked then 0xFF else s.periph.read a)
  | .extRam i =>
    match s.extRamAccess a i with
    | .ok (some k) => .ok (s.cartRam.read k)
    | .ok none => .ok 0xFF
    | .error e => .error e
  | .wram i => .ok (s.wram.read i)
  | .oam => .ok (if s.periph.locked then 0xFF else s.periph.read a)
  | .unmapped => .ok 0x00
  | .audio => .ok (s.periph.read a)
  | .display => .ok (s.periph.read a)
  | .hole => .error (.unmappedAddress a)
  | .hram i => .ok (s.hram.read i)

/-! ## Writing -/

/-- The state after a call that returned the peripheral and a set of requests: the requests are ORed into IF at
once (R96). -/
def State.afterPeriph (s : State) (r : Periph × BitVec 5) : State :=
  { s with periph := r.1, ifReg := s.ifReg ||| r.2.setWidth 8 }

/-- `PERIPH.write(addr, val)` with its requests (R74, R75, R96). -/
def State.periphWrite (s : State) (a : Word) (v : Byte) : State :=
  s.afterPeriph (s.periph.write a v)

/-- The write to VRAM or OAM, gated by `PERIPH.locked()` (R66, R70). -/
def State.gatedWrite (s : State) (a : Word) (v : Byte) : State :=
  s.afterPeriph (if s.periph.locked then (s.periph, 0) else s.periph.write a v)

/-- One byte of the DMA copy: read through the bus, written to OAM ungated (R90). -/
def dmaByte (src : Word) (s : State) (i : Nat) : Except Fault State :=
  match busRead s (src + BitVec.ofNat 16 i) with
  | .ok b => .ok { s with periph := s.periph.oamDmaWrite i b }
  | .error e => .error e

/-- The DMA copy of the bytes of a list of offsets, in order. -/
def dmaCopy (src : Word) : State → List Nat → Except Fault State
  | s, [] => .ok s
  | s, i :: rest =>
    match dmaByte src s i with
    | .ok t => dmaCopy src t rest
    | .error e => .error e

/-- A bus write of `v` to `0xFF46` (R76, R90): the whole copy of `0xA0` bytes from `v * 0x100`, then the write to
the display register, then the cycles of R92. -/
def dmaWrite (s : State) (v : Byte) : Except Fault State :=
  match dmaCopy (ofBytes v 0) s (List.range 0xA0) with
  | .ok t =>
    let u := t.periphWrite 0xFF46 v
    .ok { u with cycles := { u.cycles with dma := u.cycles.dma + u.params.dmaCycles } }
  | .error e => .error e

/-- `MemWrite(addr, 1, v)`: one bus write (R12, R61). -/
def busWrite (s : State) (a : Word) (v : Byte) : Except Fault State :=
  match route a with
  | .dmaTrigger => dmaWrite s v
  | .intFlag => .ok { s with ifReg := v }
  | .intEnable => .ok { s with ieReg := v }
  | .romFixed _ => .ok (s.mbcWrite a.toNat v)
  | .romSwitch _ => .ok (s.mbcWrite a.toNat v)
  | .vram => .ok (s.gatedWrite a v)
  | .extRam i =>
    match s.extRamAccess a i with
    | .ok (some k) => .ok { s with cartRam := s.cartRam.write k v }
    | .ok none => .ok s
    | .error e => .error e
  | .wram i => .ok { s with wram := s.wram.write i v }
  | .oam => .ok (s.gatedWrite a v)
  | .unmapped => .ok s
  | .audio => .ok (s.periphWrite a v)
  | .display => .ok (s.periphWrite a v)
  | .hole => .error (.unmappedAddress a)
  | .hram i => .ok { s with hram := s.hram.write i v }

end Sys2Proof.Machine
end

