-- ==== Sys2Proof/Machine/Flags.lean ====
section
/-! DEFINITION. The flag register (spec/10_state.md R32 to R34, R48) and the results and flags of the 8-bit and
16-bit arithmetic, logic, rotate and shift operations (spec/41_alu8.md, spec/42_alu16.md,
spec/43_rotate_shift_bit.md). -/

namespace Sys2Proof.Machine

/-! ## The flag register -/

/-- The four flags of F (R33). -/
inductive Flag where
  | z | n | h | cy
  deriving DecidableEq, Repr

/-- The bit of F that holds a flag (R33). -/
def Flag.bit : Flag → Nat
  | .z => 7
  | .n => 6
  | .h => 5
  | .cy => 4

/-- `flag(Flag) -> bool` of R33. -/
def getFlag (f : Byte) (g : Flag) : Bool := f.getLsbD g.bit

/-- `set_flag(Flag, bool)` of R33: one bit of F, the others as they were. -/
def setFlag (f : Byte) (g : Flag) (v : Bool) : Byte :=
  if v then f ||| (1#8 <<< g.bit) else f &&& ~~~(1#8 <<< g.bit)

/-- F after the four flags are written; "flag writes touch only bits 7..4" (R32). -/
def withFlags (f : Byte) (z n h cy : Bool) : Byte :=
  setFlag (setFlag (setFlag (setFlag f .z z) .n n) .h h) .cy cy

/-- `bool(x)` of R10 as a byte. -/
def bit8 (x : Bool) : Byte := if x then 1 else 0

/-! ## 8-bit operations -/

/-- The result of an 8-bit operation with its four flags. -/
structure Result8 where
  value : Byte
  z : Bool
  n : Bool
  h : Bool
  cy : Bool
  deriving DecidableEq, Repr

/-- Addition with the carry `c` coming in (R241, R242; for ADD `c` is 0). -/
def add8 (a b : Byte) (c : Bool) : Result8 :=
  let value := a + b + bit8 c
  { value := value
    z := value == 0
    n := false
    h := decide (a.toNat % 16 + b.toNat % 16 + c.toNat > 0xF)
    cy := decide (a.toNat + b.toNat + c.toNat > 0xFF) }

/-- Subtraction with the borrow `c` coming in (R243, R244; for SUB and CP `c` is 0). -/
def sub8 (a b : Byte) (c : Bool) : Result8 :=
  let value := a - b - bit8 c
  { value := value
    z := value == 0
    n := true
    h := decide (a.toNat % 16 < b.toNat % 16 + c.toNat)
    cy := decide (a.toNat < b.toNat + c.toNat) }

/-- The flags of a logic operation with result `value`; only AND sets H (R245 to R247). -/
def logic8 (value : Byte) (h : Bool) : Result8 :=
  { value := value, z := value == 0, n := false, h := h, cy := false }

/-- The result and flags of an accumulator operation, `cy` being the carry flag before it (R241 to R248). -/
def alu8 (op : AluOp) (a b : Byte) (cy : Bool) : Result8 :=
  match op with
  | .add => add8 a b false
  | .adc => add8 a b cy
  | .sub => sub8 a b false
  | .sbc => sub8 a b cy
  | .and => logic8 (a &&& b) true
  | .xor => logic8 (a ^^^ b) false
  | .or => logic8 (a ||| b) false
  | .cp => sub8 a b false

/-- What A holds after an accumulator operation: the result, and for CP what it held (R248). -/
def aluStored (op : AluOp) (a : Byte) (r : Result8) : Byte :=
  match op with
  | .cp => a
  | _ => r.value

/-- INC of a byte; CY stays `cy` (R249). -/
def inc8 (v : Byte) (cy : Bool) : Result8 :=
  { value := v + 1, z := v + 1 == 0, n := false, h := v &&& 0xF == 0xF, cy := cy }

/-- DEC of a byte; CY stays `cy` (R251). -/
def dec8 (v : Byte) (cy : Bool) : Result8 :=
  { value := v - 1, z := v - 1 == 0, n := true, h := v &&& 0xF == 0x0, cy := cy }

/-- The value of DAA and the carry it leaves (R254). -/
def daaValue (v : Byte) (n h cy : Bool) : Byte × Bool :=
  if n = false then
    let high := cy || decide (v > 0x99)
    let v1 := if high then v + 0x60 else v
    let v2 := if h || decide (v1 &&& 0x0F > 0x09) then v1 + 0x06 else v1
    (v2, high)
  else
    let v1 := if cy then v - 0x60 else v
    let v2 := if h then v1 - 0x06 else v1
    (v2, cy)

/-- DAA with its flags; N stays `n` (R254). -/
def daa8 (v : Byte) (n h cy : Bool) : Result8 :=
  let r := daaValue v n h cy
  { value := r.1, z := r.1 == 0, n := n, h := false, cy := r.2 }

/-! ## Rotates and shifts -/

/-- The result of a rotate, shift or SWAP and the carry it leaves, `cy` being the carry flag before it
(R305 to R312). -/
def rotate8 (op : RotOp) (v : Byte) (cy : Bool) : Byte × Bool :=
  match op with
  | .rlc => ((v <<< 1) ||| bit8 (v.getLsbD 7), v.getLsbD 7)
  | .rrc => ((v >>> 1) ||| (bit8 (v.getLsbD 0) <<< 7), v.getLsbD 0)
  | .rl => ((v <<< 1) ||| bit8 cy, v.getLsbD 7)
  | .rr => ((v >>> 1) ||| (bit8 cy <<< 7), v.getLsbD 0)
  | .sla => (v <<< 1, v.getLsbD 7)
  | .sra => ((v >>> 1) ||| (v &&& 0x80), v.getLsbD 0)
  | .swap => (((v &&& 0x0F) <<< 4) ||| (v >>> 4), false)
  | .srl => (v >>> 1, v.getLsbD 0)

/-- A rotate, shift or SWAP of the `0xCB` page: Z reflects the result (R305 to R312). -/
def rot8 (op : RotOp) (v : Byte) (cy : Bool) : Result8 :=
  let r := rotate8 op v cy
  { value := r.1, z := r.1 == 0, n := false, h := false, cy := r.2 }

/-- An accumulator rotate: Z is 0 whatever the result (R301 to R304). -/
def rotA8 (op : RotOp) (v : Byte) (cy : Bool) : Result8 :=
  let r := rotate8 op v cy
  { value := r.1, z := false, n := false, h := false, cy := r.2 }

/-- RES: `v & ~(1 << b)` (R314). -/
def clearBit8 (b : Ix8) (v : Byte) : Byte := v &&& ~~~(1#8 <<< b.index)

/-- SET: `v | (1 << b)` (R315). -/
def setBit8 (b : Ix8) (v : Byte) : Byte := v ||| (1#8 <<< b.index)

/-! ## 16-bit operations -/

/-- H of `ADD HL,rr`: the carry out of bit 11 (R282). -/
def addHLHalf (h v : Word) : Bool := decide (h.toNat % 0x1000 + v.toNat % 0x1000 > 0x0FFF)

/-- CY of `ADD HL,rr`: the carry out of bit 15 (R282). -/
def addHLCarry (h v : Word) : Bool := decide (h.toNat + v.toNat > 0xFFFF)

/-- H of `ADD SP,e` and `LD HL,SP+e`: from the low nibbles, `e` as an unsigned byte (R283, R284). -/
def addSPHalf (sp : Word) (e : Byte) : Bool := decide (sp.toNat % 0x10 + e.toNat % 0x10 > 0x0F)

/-- CY of `ADD SP,e` and `LD HL,SP+e`: from the low bytes, `e` as an unsigned byte (R283, R284). -/
def addSPCarry (sp : Word) (e : Byte) : Bool := decide (sp.toNat % 0x100 + e.toNat > 0xFF)

end Sys2Proof.Machine
end

