-- ==== Sys2Proof/Machine/Ops.lean ====
section
/-! DEFINITION. The named operations over registers, the stack and the interrupt state that the meanings and the
step loop share. Taking an interrupt, the one asynchronous event of this core, is `dispatch`; the return from one is
`returnFromInterrupt`. -/

namespace Sys2Proof.Machine

/-! ## Outcomes -/

/-- The outcome of an operation that answers a state or a fatal condition (R400). -/
def done (r : Except Fault State) : Out :=
  match r with
  | .ok s => .next s
  | .error e => .fault e

/-! ## Registers -/

/-- `x[r]` (R11). -/
def Regs.get (g : Regs) : R8 → Byte
  | .b => g.b
  | .c => g.c
  | .d => g.d
  | .e => g.e
  | .h => g.h
  | .l => g.l
  | .a => g.a

/-- `x[r] <- v` (R11). -/
def Regs.set (g : Regs) (r : R8) (v : Byte) : Regs :=
  match r with
  | .b => { g with b := v }
  | .c => { g with c := v }
  | .d => { g with d := v }
  | .e => { g with e := v }
  | .h => { g with h := v }
  | .l => { g with l := v }
  | .a => { g with a := v }

/-- `x16[BC]` (R31). -/
def Regs.bc (g : Regs) : Word := ofBytes g.b g.c

/-- `x16[DE]` (R31). -/
def Regs.de (g : Regs) : Word := ofBytes g.d g.e

/-- `x16[HL]` (R31). -/
def Regs.hl (g : Regs) : Word := ofBytes g.h g.l

/-- `x16[AF]` (R31). -/
def Regs.af (g : Regs) : Word := ofBytes g.a g.f

/-- `x16[HL] <- v` (R11). -/
def Regs.setHL (g : Regs) (v : Word) : Regs := { g with h := hiByte v, l := loByte v }

/-- The state with an 8-bit register written. -/
def State.setReg (s : State) (r : R8) (v : Byte) : State := { s with regs := s.regs.set r v }

/-- The state with HL written. -/
def State.setHL (s : State) (v : Word) : State := { s with regs := s.regs.setHL v }

/-- The state with SP written. -/
def State.setSP (s : State) (v : Word) : State := { s with sp := v }

/-- The state with PC written. -/
def State.setPC (s : State) (v : Word) : State := { s with pc := v }

/-- The state with IME written. -/
def State.setIME (s : State) (v : Bool) : State := { s with ime := v }

/-- A flag of F. -/
def State.flag (s : State) (g : Flag) : Bool := getFlag s.regs.f g

/-- The state with the four flags written (R32). -/
def State.setFlags (s : State) (z n h cy : Bool) : State :=
  { s with regs := { s.regs with f := withFlags s.regs.f z n h cy } }

/-- The state with the flags of a result written. -/
def State.setResultFlags (s : State) (r : Result8) : State := s.setFlags r.z r.n r.h r.cy

/-- The state after a taken conditional is charged its extra cycles (R138: "this extra cost is charged by the
Executor"). -/
def State.charge (s : State) (extra : Nat) : State :=
  { s with cycles := { s.cycles with instruction := s.cycles.instruction + extra } }

/-! ## The stack -/

/-- `Push16(v)` (R230): the high byte first, SP decremented before each byte. -/
def push16 (s : State) (v : Word) : Except Fault State :=
  match busWrite (s.setSP (s.sp - 1)) (s.sp - 1) (hiByte v) with
  | .ok t => busWrite (t.setSP (t.sp - 1)) (t.sp - 1) (loByte v)
  | .error e => .error e

/-- `Pop16()` (R231): the low byte first, SP incremented after each byte. -/
def pop16 (s : State) : Except Fault (State × Word) :=
  match busRead s s.sp with
  | .ok lo =>
    match busRead (s.setSP (s.sp + 1)) (s.sp + 1) with
    | .ok hi => .ok ((s.setSP (s.sp + 1)).setSP (s.sp + 1 + 1), ofBytes hi lo)
    | .error e => .error e
  | .error e => .error e

/-! ## Interrupts -/

/-- The five interrupt sources (R40). -/
inductive IntSource where
  | vblank | lcdStat | timer | serial | joypad
  deriving DecidableEq, Repr

/-- The bit of IF and IE of a source (R40). -/
def IntSource.bit : IntSource → Nat
  | .vblank => 0
  | .lcdStat => 1
  | .timer => 2
  | .serial => 3
  | .joypad => 4

/-- The service vector of a source: `0x0040 + 8 * i` (R40, R411). -/
def IntSource.vector : IntSource → Word
  | .vblank => 0x0040
  | .lcdStat => 0x0048
  | .timer => 0x0050
  | .serial => 0x0058
  | .joypad => 0x0060

/-- Source `i` is enabled and pending: its bit is set in both IE and IF (R412). -/
def intReady (ifReg ieReg : Byte) (i : IntSource) : Bool := ieReg.getLsbD i.bit && ifReg.getLsbD i.bit

/-- The first source of a list that is enabled and pending. -/
def firstReady (ifReg ieReg : Byte) : List IntSource → Option IntSource
  | [] => none
  | i :: rest => if intReady ifReg ieReg i then some i else firstReady ifReg ieReg rest

/-- The scan of "sources 0..4 in fixed priority order" (R413). -/
def readySource (ifReg ieReg : Byte) : Option IntSource :=
  firstReady ifReg ieReg [.vblank, .lcdStat, .timer, .serial, .joypad]

/-- Dispatch of source `i`, the taking of an interrupt (R411): its IF bit, IME and Halted are cleared, PC is pushed,
PC goes to the vector, and the dispatch cost is charged. -/
def dispatch (s : State) (i : IntSource) : Except Fault State :=
  match push16 { s with ifReg := s.ifReg &&& ~~~(1#8 <<< i.bit), ime := false, halted := false } s.pc with
  | .ok t => .ok { t with pc := i.vector, cycles := { t.cycles with dispatch := t.params.intDispatchCycles } }
  | .error e => .error e

/-- The interrupt check, phase 4 of a step (R412, R413, R420): at most one source, and only with IME set. -/
def interruptCheck (s : State) : Except Fault State :=
  if s.ime then
    match readySource s.ifReg s.ieReg with
    | some i => dispatch s i
    | none => .ok s
  else .ok s

/-- The return of RET: PC popped from the stack (R348). -/
def returnFromCall (s : State) : Except Fault State :=
  match pop16 s with
  | .ok (t, target) => .ok (t.setPC target)
  | .error e => .error e

/-- The return of RETI: as RET, and IME is cleared (R352, C8). -/
def returnFromInterrupt (s : State) : Except Fault State :=
  match returnFromCall s with
  | .ok t => .ok (t.setIME false)
  | .error e => .error e

end Sys2Proof.Machine
end

