-- ==== Sys2Proof/Machine/Operands.lean ====
section
/-! DEFINITION. The operand forms (spec/30_encoding.md R124 to R127, spec/40_load.md R200): registers and `(HL)`,
register pairs, conditions, and the addresses of the memory operands. -/

namespace Sys2Proof.Machine

/-! ## Addresses -/

/-- `0xFF00 + n`, the address of the LDH and `(C)` forms (R124). -/
def highPage (n : Byte) : Word := ofBytes 0xFF n

/-- The target of a relative jump: `trunc16(pc + sext_16(e))`, `pc` being the address after the instruction (R340). -/
def relTarget (pc : Word) (e : Byte) : Word := pc + sext16 e

/-- The target of RST: `y * 8` (R350). -/
def rstTarget : Ix8 → Word
  | .i0 => 0x0000
  | .i1 => 0x0008
  | .i2 => 0x0010
  | .i3 => 0x0018
  | .i4 => 0x0020
  | .i5 => 0x0028
  | .i6 => 0x0030
  | .i7 => 0x0038

/-! ## 8-bit operands -/

/-- `r8read(i)` (R12): a register, or the byte at HL. -/
def readSrc (s : State) : Src8 → Except Fault Byte
  | .reg r => .ok (s.regs.get r)
  | .atHL => busRead s s.regs.hl

/-- `r8write(i, v)` (R12): a register, or the byte at HL. -/
def writeSrc (s : State) (dst : Src8) (v : Byte) : Except Fault State :=
  match dst with
  | .reg r => .ok (s.setReg r v)
  | .atHL => busWrite s s.regs.hl v

/-! ## 16-bit operands -/

/-- The value of a pair of the table `rp` (R126). -/
def State.getRp (s : State) : Rp → Word
  | .bc => s.regs.bc
  | .de => s.regs.de
  | .hl => s.regs.hl
  | .sp => s.sp

/-- The state with a pair of the table `rp` written (R11). -/
def State.setRp (s : State) (rr : Rp) (v : Word) : State :=
  match rr with
  | .bc => { s with regs := { s.regs with b := hiByte v, c := loByte v } }
  | .de => { s with regs := { s.regs with d := hiByte v, e := loByte v } }
  | .hl => s.setHL v
  | .sp => s.setSP v

/-- The value of a pair of the table `rp2` (R126). -/
def State.getRp2 (s : State) : Rp2 → Word
  | .bc => s.regs.bc
  | .de => s.regs.de
  | .hl => s.regs.hl
  | .af => s.regs.af

/-- The state with a pair of the table `rp2` written; a write of AF masks the low nibble of F to zero (R11, R32). -/
def State.setRp2 (s : State) (rr : Rp2) (v : Word) : State :=
  match rr with
  | .bc => { s with regs := { s.regs with b := hiByte v, c := loByte v } }
  | .de => { s with regs := { s.regs with d := hiByte v, e := loByte v } }
  | .hl => s.setHL v
  | .af => { s with regs := { s.regs with a := hiByte v, f := loByte v &&& 0xF0 } }

/-! ## Conditions -/

/-- `cond(cc)` (R127). -/
def State.cond (s : State) : Cond → Bool
  | .nz => !s.flag .z
  | .z => s.flag .z
  | .nc => !s.flag .cy
  | .c => s.flag .cy

end Sys2Proof.Machine
end

