-- ==== Sys2Proof/Machine/Alu16.lean ====
section
/-! DEFINITION. 16-bit arithmetic (spec/42_alu16.md). -/

namespace Sys2Proof.Machine

/-! ## Shared operations -/

/-- `trunc16(v + step)` written back to the pair, no flags (R280, R281). -/
def addToPair (rr : Rp) (step : Word) (s : State) : Out := .next (s.setRp rr (s.getRp rr + step))

/-- `ADD HL,rr` (R282): Z is unchanged. -/
def addHLPair (rr : Rp) (s : State) : Out :=
  .next ((s.setHL (s.regs.hl + s.getRp rr)).setFlags (s.flag .z) false (addHLHalf s.regs.hl (s.getRp rr))
    (addHLCarry s.regs.hl (s.getRp rr)))

/-- The flags of `ADD SP,e` and `LD HL,SP+e` (R283, R284). -/
def spPlusFlags (s : State) (e : Byte) : State :=
  s.setFlags false false (addSPHalf s.sp e) (addSPCarry s.sp e)

/-! ## One definition for each row of the opcode table -/

/-- `INC BC` (R280). -/
def execIncBC (s : State) : Out := addToPair .bc 1 s

/-- `ADD HL,BC` (R282). -/
def execAddHLBC (s : State) : Out := addHLPair .bc s

/-- `DEC BC` (R281). -/
def execDecBC (s : State) : Out := addToPair .bc (-1) s

/-- `INC DE` (R280). -/
def execIncDE (s : State) : Out := addToPair .de 1 s

/-- `ADD HL,DE` (R282). -/
def execAddHLDE (s : State) : Out := addHLPair .de s

/-- `DEC DE` (R281). -/
def execDecDE (s : State) : Out := addToPair .de (-1) s

/-- `INC HL` (R280). -/
def execIncHL (s : State) : Out := addToPair .hl 1 s

/-- `ADD HL,HL` (R282). -/
def execAddHLHL (s : State) : Out := addHLPair .hl s

/-- `DEC HL` (R281). -/
def execDecHL (s : State) : Out := addToPair .hl (-1) s

/-- `INC SP` (R280). -/
def execIncSP (s : State) : Out := addToPair .sp 1 s

/-- `ADD HL,SP` (R282). -/
def execAddHLSP (s : State) : Out := addHLPair .sp s

/-- `DEC SP` (R281). -/
def execDecSP (s : State) : Out := addToPair .sp (-1) s

/-- `ADD SP,e` (R283). -/
def execAddSPRel (e : Byte) (s : State) : Out := .next ((spPlusFlags s e).setSP (s.sp + sext16 e))

/-- `LD HL,SP+e` (R284). -/
def execLdHLSPRel (e : Byte) (s : State) : Out := .next ((spPlusFlags s e).setHL (s.sp + sext16 e))

end Sys2Proof.Machine
end

