-- ==== Sys2Proof/Machine/Alu8.lean ====
section
/-! DEFINITION. 8-bit arithmetic and logic (spec/41_alu8.md). -/

namespace Sys2Proof.Machine

/-! ## Shared operations -/

/-- The state with a result in A and its flags in F. -/
def storeA (s : State) (r : Result8) : State := (s.setReg .a r.value).setResultFlags r

/-- An accumulator operation with second operand `b` (R240 to R248). -/
def aluState (op : AluOp) (b : Byte) (s : State) : State :=
  let r := alu8 op s.regs.a b (s.flag .cy)
  (s.setReg .a (aluStored op s.regs.a r)).setResultFlags r

/-- The register and `(HL)` forms of an accumulator operation (R240). -/
def aluWith (op : AluOp) (src : Src8) (s : State) : Out :=
  match readSrc s src with
  | .ok b => .next (aluState op b s)
  | .error e => .fault e

/-- The immediate form of an accumulator operation (R240). -/
def aluImm (op : AluOp) (n : Byte) (s : State) : Out := .next (aluState op n s)

/-- A read of an operand, a new value and flags from it, and the value written back to the same operand. -/
def modifyOperand (src : Src8) (f : Byte → Result8) (s : State) : Out :=
  match readSrc s src with
  | .ok v =>
    match writeSrc s src (f v).value with
    | .ok t => .next (t.setResultFlags (f v))
    | .error e => .fault e
  | .error e => .fault e

/-- INC of an operand, CY unchanged (R249, R250). -/
def incOperand (src : Src8) (s : State) : Out := modifyOperand src (fun v => inc8 v (s.flag .cy)) s

/-- DEC of an operand, CY unchanged (R251, R252). -/
def decOperand (src : Src8) (s : State) : Out := modifyOperand src (fun v => dec8 v (s.flag .cy)) s

/-! ## One definition for each row of the opcode table -/

/-- `INC B` (R249). -/
def execIncB (s : State) : Out := incOperand (.reg .b) s

/-- `DEC B` (R251). -/
def execDecB (s : State) : Out := decOperand (.reg .b) s

/-- `INC C` (R249). -/
def execIncC (s : State) : Out := incOperand (.reg .c) s

/-- `DEC C` (R251). -/
def execDecC (s : State) : Out := decOperand (.reg .c) s

/-- `INC D` (R249). -/
def execIncD (s : State) : Out := incOperand (.reg .d) s

/-- `DEC D` (R251). -/
def execDecD (s : State) : Out := decOperand (.reg .d) s

/-- `INC E` (R249). -/
def execIncE (s : State) : Out := incOperand (.reg .e) s

/-- `DEC E` (R251). -/
def execDecE (s : State) : Out := decOperand (.reg .e) s

/-- `INC H` (R249). -/
def execIncH (s : State) : Out := incOperand (.reg .h) s

/-- `DEC H` (R251). -/
def execDecH (s : State) : Out := decOperand (.reg .h) s

/-- `DAA` (R254). -/
def execDaa (s : State) : Out := .next (storeA s (daa8 s.regs.a (s.flag .n) (s.flag .h) (s.flag .cy)))

/-- `INC L` (R249). -/
def execIncL (s : State) : Out := incOperand (.reg .l) s

/-- `DEC L` (R251). -/
def execDecL (s : State) : Out := decOperand (.reg .l) s

/-- `CPL` (R255). -/
def execCpl (s : State) : Out := .next ((s.setReg .a (~~~s.regs.a)).setFlags (s.flag .z) true true (s.flag .cy))

/-- `INC (HL)` (R250). -/
def execIncMHL (s : State) : Out := incOperand .atHL s

/-- `DEC (HL)` (R252). -/
def execDecMHL (s : State) : Out := decOperand .atHL s

/-- `SCF` (R256). -/
def execScf (s : State) : Out := .next (s.setFlags (s.flag .z) false false true)

/-- `INC A` (R249). -/
def execIncA (s : State) : Out := incOperand (.reg .a) s

/-- `DEC A` (R251). -/
def execDecA (s : State) : Out := decOperand (.reg .a) s

/-- `CCF` (R257). -/
def execCcf (s : State) : Out := .next (s.setFlags (s.flag .z) false false (!s.flag .cy))

/-- `ADD A,B` (R241). -/
def execAddAB (s : State) : Out := aluWith .add (.reg .b) s

/-- `ADD A,C` (R241). -/
def execAddAC (s : State) : Out := aluWith .add (.reg .c) s

/-- `ADD A,D` (R241). -/
def execAddAD (s : State) : Out := aluWith .add (.reg .d) s

/-- `ADD A,E` (R241). -/
def execAddAE (s : State) : Out := aluWith .add (.reg .e) s

/-- `ADD A,H` (R241). -/
def execAddAH (s : State) : Out := aluWith .add (.reg .h) s

/-- `ADD A,L` (R241). -/
def execAddAL (s : State) : Out := aluWith .add (.reg .l) s

/-- `ADD A,(HL)` (R241). -/
def execAddAMHL (s : State) : Out := aluWith .add .atHL s

/-- `ADD A,A` (R241). -/
def execAddAA (s : State) : Out := aluWith .add (.reg .a) s

/-- `ADC A,B` (R242). -/
def execAdcAB (s : State) : Out := aluWith .adc (.reg .b) s

/-- `ADC A,C` (R242). -/
def execAdcAC (s : State) : Out := aluWith .adc (.reg .c) s

/-- `ADC A,D` (R242). -/
def execAdcAD (s : State) : Out := aluWith .adc (.reg .d) s

/-- `ADC A,E` (R242). -/
def execAdcAE (s : State) : Out := aluWith .adc (.reg .e) s

/-- `ADC A,H` (R242). -/
def execAdcAH (s : State) : Out := aluWith .adc (.reg .h) s

/-- `ADC A,L` (R242). -/
def execAdcAL (s : State) : Out := aluWith .adc (.reg .l) s

/-- `ADC A,(HL)` (R242). -/
def execAdcAMHL (s : State) : Out := aluWith .adc .atHL s

/-- `ADC A,A` (R242). -/
def execAdcAA (s : State) : Out := aluWith .adc (.reg .a) s

/-- `SUB B` (R243). -/
def execSubB (s : State) : Out := aluWith .sub (.reg .b) s

/-- `SUB C` (R243). -/
def execSubC (s : State) : Out := aluWith .sub (.reg .c) s

/-- `SUB D` (R243). -/
def execSubD (s : State) : Out := aluWith .sub (.reg .d) s

/-- `SUB E` (R243). -/
def execSubE (s : State) : Out := aluWith .sub (.reg .e) s

/-- `SUB H` (R243). -/
def execSubH (s : State) : Out := aluWith .sub (.reg .h) s

/-- `SUB L` (R243). -/
def execSubL (s : State) : Out := aluWith .sub (.reg .l) s

/-- `SUB (HL)` (R243). -/
def execSubMHL (s : State) : Out := aluWith .sub .atHL s

/-- `SUB A` (R243). -/
def execSubA (s : State) : Out := aluWith .sub (.reg .a) s

/-- `SBC A,B` (R244). -/
def execSbcAB (s : State) : Out := aluWith .sbc (.reg .b) s

/-- `SBC A,C` (R244). -/
def execSbcAC (s : State) : Out := aluWith .sbc (.reg .c) s

/-- `SBC A,D` (R244). -/
def execSbcAD (s : State) : Out := aluWith .sbc (.reg .d) s

/-- `SBC A,E` (R244). -/
def execSbcAE (s : State) : Out := aluWith .sbc (.reg .e) s

/-- `SBC A,H` (R244). -/
def execSbcAH (s : State) : Out := aluWith .sbc (.reg .h) s

/-- `SBC A,L` (R244). -/
def execSbcAL (s : State) : Out := aluWith .sbc (.reg .l) s

/-- `SBC A,(HL)` (R244). -/
def execSbcAMHL (s : State) : Out := aluWith .sbc .atHL s

/-- `SBC A,A` (R244). -/
def execSbcAA (s : State) : Out := aluWith .sbc (.reg .a) s

/-- `AND B` (R245). -/
def execAndB (s : State) : Out := aluWith .and (.reg .b) s

/-- `AND C` (R245). -/
def execAndC (s : State) : Out := aluWith .and (.reg .c) s

/-- `AND D` (R245). -/
def execAndD (s : State) : Out := aluWith .and (.reg .d) s

/-- `AND E` (R245). -/
def execAndE (s : State) : Out := aluWith .and (.reg .e) s

/-- `AND H` (R245). -/
def execAndH (s : State) : Out := aluWith .and (.reg .h) s

/-- `AND L` (R245). -/
def execAndL (s : State) : Out := aluWith .and (.reg .l) s

/-- `AND (HL)` (R245). -/
def execAndMHL (s : State) : Out := aluWith .and .atHL s

/-- `AND A` (R245). -/
def execAndA (s : State) : Out := aluWith .and (.reg .a) s

/-- `XOR B` (R246). -/
def execXorB (s : State) : Out := aluWith .xor (.reg .b) s

/-- `XOR C` (R246). -/
def execXorC (s : State) : Out := aluWith .xor (.reg .c) s

/-- `XOR D` (R246). -/
def execXorD (s : State) : Out := aluWith .xor (.reg .d) s

/-- `XOR E` (R246). -/
def execXorE (s : State) : Out := aluWith .xor (.reg .e) s

/-- `XOR H` (R246). -/
def execXorH (s : State) : Out := aluWith .xor (.reg .h) s

/-- `XOR L` (R246). -/
def execXorL (s : State) : Out := aluWith .xor (.reg .l) s

/-- `XOR (HL)` (R246). -/
def execXorMHL (s : State) : Out := aluWith .xor .atHL s

/-- `XOR A` (R246). -/
def execXorA (s : State) : Out := aluWith .xor (.reg .a) s

/-- `OR B` (R247). -/
def execOrB (s : State) : Out := aluWith .or (.reg .b) s

/-- `OR C` (R247). -/
def execOrC (s : State) : Out := aluWith .or (.reg .c) s

/-- `OR D` (R247). -/
def execOrD (s : State) : Out := aluWith .or (.reg .d) s

/-- `OR E` (R247). -/
def execOrE (s : State) : Out := aluWith .or (.reg .e) s

/-- `OR H` (R247). -/
def execOrH (s : State) : Out := aluWith .or (.reg .h) s

/-- `OR L` (R247). -/
def execOrL (s : State) : Out := aluWith .or (.reg .l) s

/-- `OR (HL)` (R247). -/
def execOrMHL (s : State) : Out := aluWith .or .atHL s

/-- `OR A` (R247). -/
def execOrA (s : State) : Out := aluWith .or (.reg .a) s

/-- `CP B` (R248). -/
def execCpB (s : State) : Out := aluWith .cp (.reg .b) s

/-- `CP C` (R248). -/
def execCpC (s : State) : Out := aluWith .cp (.reg .c) s

/-- `CP D` (R248). -/
def execCpD (s : State) : Out := aluWith .cp (.reg .d) s

/-- `CP E` (R248). -/
def execCpE (s : State) : Out := aluWith .cp (.reg .e) s

/-- `CP H` (R248). -/
def execCpH (s : State) : Out := aluWith .cp (.reg .h) s

/-- `CP L` (R248). -/
def execCpL (s : State) : Out := aluWith .cp (.reg .l) s

/-- `CP (HL)` (R248). -/
def execCpMHL (s : State) : Out := aluWith .cp .atHL s

/-- `CP A` (R248). -/
def execCpA (s : State) : Out := aluWith .cp (.reg .a) s

/-- `ADD A,n` (R241). -/
def execAddAN (n : Byte) (s : State) : Out := aluImm .add n s

/-- `ADC A,n` (R242). -/
def execAdcAN (n : Byte) (s : State) : Out := aluImm .adc n s

/-- `SUB n` (R243). -/
def execSubN (n : Byte) (s : State) : Out := aluImm .sub n s

/-- `SBC A,n` (R244). -/
def execSbcAN (n : Byte) (s : State) : Out := aluImm .sbc n s

/-- `AND n` (R245). -/
def execAndN (n : Byte) (s : State) : Out := aluImm .and n s

/-- `XOR n` (R246). -/
def execXorN (n : Byte) (s : State) : Out := aluImm .xor n s

/-- `OR n` (R247). -/
def execOrN (n : Byte) (s : State) : Out := aluImm .or n s

/-- `CP n` (R248). -/
def execCpN (n : Byte) (s : State) : Out := aluImm .cp n s

end Sys2Proof.Machine
end

