-- ==== Sys2Proof/Machine/Control.lean ====
section
/-! DEFINITION. Control transfer (spec/44_control.md). The extra cycles of a taken conditional are the difference of
the `cycles_taken` and `cycles` columns of spec/opcode_table.json (R340, R470). -/

namespace Sys2Proof.Machine

/-! ## Shared operations -/

/-- A conditional jump; taken it costs 4 cycles more (R342, R345). -/
def jumpIf (cc : Cond) (target : Word) (s : State) : Out :=
  .next (if s.cond cc then (s.setPC target).charge 4 else s)

/-- `Push16(pc); pc <- target` (R346, R350). -/
def callTo (target : Word) (s : State) : Except Fault State :=
  match push16 s s.pc with
  | .ok t => .ok (t.setPC target)
  | .error e => .error e

/-- A conditional call; taken it costs 12 cycles more (R347). -/
def callIf (cc : Cond) (target : Word) (s : State) : Out :=
  if s.cond cc then
    match callTo target s with
    | .ok t => .next (t.charge 12)
    | .error e => .fault e
  else .next s

/-- A conditional return; taken it costs 12 cycles more (R349). -/
def retIf (cc : Cond) (s : State) : Out :=
  if s.cond cc then
    match returnFromCall s with
    | .ok t => .next (t.charge 12)
    | .error e => .fault e
  else .next s

/-! ## One definition for each row of the opcode table -/

/-- `JR e` (R344). -/
def execJrRel (e : Byte) (s : State) : Out := .next (s.setPC (relTarget s.pc e))

/-- `JR NZ,e` (R345). -/
def execJrNZRel (e : Byte) (s : State) : Out := jumpIf .nz (relTarget s.pc e) s

/-- `JR Z,e` (R345). -/
def execJrZRel (e : Byte) (s : State) : Out := jumpIf .z (relTarget s.pc e) s

/-- `JR NC,e` (R345). -/
def execJrNCRel (e : Byte) (s : State) : Out := jumpIf .nc (relTarget s.pc e) s

/-- `JR C,e` (R345). -/
def execJrCRel (e : Byte) (s : State) : Out := jumpIf .c (relTarget s.pc e) s

/-- `RET NZ` (R349). -/
def execRetNZ (s : State) : Out := retIf .nz s

/-- `JP NZ,nn` (R342). -/
def execJpNZNN (nn : Word) (s : State) : Out := jumpIf .nz nn s

/-- `JP nn` (R341). -/
def execJpNN (nn : Word) (s : State) : Out := .next (s.setPC nn)

/-- `CALL NZ,nn` (R347). -/
def execCallNZNN (nn : Word) (s : State) : Out := callIf .nz nn s

/-- `RST 00H` (R350). -/
def execRst00 (s : State) : Out := done (callTo (rstTarget .i0) s)

/-- `RET Z` (R349). -/
def execRetZ (s : State) : Out := retIf .z s

/-- `RET` (R348). -/
def execRet (s : State) : Out := done (returnFromCall s)

/-- `JP Z,nn` (R342). -/
def execJpZNN (nn : Word) (s : State) : Out := jumpIf .z nn s

/-- `CALL Z,nn` (R347). -/
def execCallZNN (nn : Word) (s : State) : Out := callIf .z nn s

/-- `CALL nn` (R346). -/
def execCallNN (nn : Word) (s : State) : Out := done (callTo nn s)

/-- `RST 08H` (R350). -/
def execRst08 (s : State) : Out := done (callTo (rstTarget .i1) s)

/-- `RET NC` (R349). -/
def execRetNC (s : State) : Out := retIf .nc s

/-- `JP NC,nn` (R342). -/
def execJpNCNN (nn : Word) (s : State) : Out := jumpIf .nc nn s

/-- `CALL NC,nn` (R347). -/
def execCallNCNN (nn : Word) (s : State) : Out := callIf .nc nn s

/-- `RST 10H` (R350). -/
def execRst10 (s : State) : Out := done (callTo (rstTarget .i2) s)

/-- `RET C` (R349). -/
def execRetC (s : State) : Out := retIf .c s

/-- `RETI` (R352). -/
def execReti (s : State) : Out := done (returnFromInterrupt s)

/-- `JP C,nn` (R342). -/
def execJpCNN (nn : Word) (s : State) : Out := jumpIf .c nn s

/-- `CALL C,nn` (R347). -/
def execCallCNN (nn : Word) (s : State) : Out := callIf .c nn s

/-- `RST 18H` (R350). -/
def execRst18 (s : State) : Out := done (callTo (rstTarget .i3) s)

/-- `RST 20H` (R350). -/
def execRst20 (s : State) : Out := done (callTo (rstTarget .i4) s)

/-- `JP HL` (R343). -/
def execJpHL (s : State) : Out := .next (s.setPC s.regs.hl)

/-- `RST 28H` (R350). -/
def execRst28 (s : State) : Out := done (callTo (rstTarget .i5) s)

/-- `RST 30H` (R350). -/
def execRst30 (s : State) : Out := done (callTo (rstTarget .i6) s)

/-- `RST 38H` (R350). -/
def execRst38 (s : State) : Out := done (callTo (rstTarget .i7) s)

end Sys2Proof.Machine
end

