-- ==== Sys2Proof/Machine/Load.lean ====
section
/-! DEFINITION. Loads, stores and stack operations (spec/40_load.md). -/

namespace Sys2Proof.Machine

/-! ## Shared operations -/

/-- `x[dst] <- x[src]` (R201). -/
def ldRegReg (dst src : R8) (s : State) : Out := .next (s.setReg dst (s.regs.get src))

/-- `x[dst] <- n` (R202). -/
def ldRegImm (dst : R8) (n : Byte) (s : State) : Out := .next (s.setReg dst n)

/-- `x[dst] <- MemRead(addr, 1)` (R203, R206, R207, R210, R212, R214). -/
def ldRegMem (dst : R8) (addr : Word) (s : State) : Out :=
  match busRead s addr with
  | .ok v => .next (s.setReg dst v)
  | .error e => .fault e

/-- `MemWrite(addr, 1, x[src])` (R204, R208, R209, R211, R213, R215). -/
def ldMemReg (addr : Word) (src : R8) (s : State) : Out := done (busWrite s addr (s.regs.get src))

/-- `MemWrite(addr, 1, n)` (R205). -/
def ldMemImm (addr : Word) (n : Byte) (s : State) : Out := done (busWrite s addr n)

/-- `a <- x16[HL]; x[A] <- MemRead(a, 1); x16[HL] <- trunc16(a + step)` (R216, R217). -/
def ldAMemHL (step : Word) (s : State) : Out :=
  match busRead s s.regs.hl with
  | .ok v => .next ((s.setReg .a v).setHL (s.regs.hl + step))
  | .error e => .fault e

/-- `a <- x16[HL]; MemWrite(a, 1, x[A]); x16[HL] <- trunc16(a + step)` (R218, R219). -/
def ldMemHLA (step : Word) (s : State) : Out :=
  match busWrite s s.regs.hl s.regs.a with
  | .ok t => .next (t.setHL (s.regs.hl + step))
  | .error e => .fault e

/-- `LD rr,nn` (R220). -/
def ldPairImm (rr : Rp) (nn : Word) (s : State) : Out := .next (s.setRp rr nn)

/-- `MemWrite(nn, 1, SP[7:0]); MemWrite(trunc16(nn + 1), 1, SP[15:8])` (R221). -/
def ldMemSP (nn : Word) (s : State) : Out :=
  match busWrite s nn (loByte s.sp) with
  | .ok t => done (busWrite t (nn + 1) (hiByte s.sp))
  | .error e => .fault e

/-- `Push16(x16[rr])` (R232). -/
def pushPair (rr : Rp2) (s : State) : Out := done (push16 s (s.getRp2 rr))

/-- `v <- Pop16(); x16[rr] <- v`, with F masked for AF (R233). -/
def popPair (rr : Rp2) (s : State) : Out :=
  match pop16 s with
  | .ok (t, v) => .next (t.setRp2 rr v)
  | .error e => .fault e

/-! ## One definition for each row of the opcode table -/

/-- `LD BC,nn` (R220). -/
def execLdBCNN (nn : Word) (s : State) : Out := ldPairImm .bc nn s

/-- `LD (BC),A` (R208). -/
def execLdMBCA (s : State) : Out := ldMemReg s.regs.bc .a s

/-- `LD B,n` (R202). -/
def execLdBN (n : Byte) (s : State) : Out := ldRegImm .b n s

/-- `LD (nn),SP` (R221). -/
def execLdMNNSP (nn : Word) (s : State) : Out := ldMemSP nn s

/-- `LD A,(BC)` (R206). -/
def execLdAMBC (s : State) : Out := ldRegMem .a s.regs.bc s

/-- `LD C,n` (R202). -/
def execLdCN (n : Byte) (s : State) : Out := ldRegImm .c n s

/-- `LD DE,nn` (R220). -/
def execLdDENN (nn : Word) (s : State) : Out := ldPairImm .de nn s

/-- `LD (DE),A` (R209). -/
def execLdMDEA (s : State) : Out := ldMemReg s.regs.de .a s

/-- `LD D,n` (R202). -/
def execLdDN (n : Byte) (s : State) : Out := ldRegImm .d n s

/-- `LD A,(DE)` (R207). -/
def execLdAMDE (s : State) : Out := ldRegMem .a s.regs.de s

/-- `LD E,n` (R202). -/
def execLdEN (n : Byte) (s : State) : Out := ldRegImm .e n s

/-- `LD HL,nn` (R220). -/
def execLdHLNN (nn : Word) (s : State) : Out := ldPairImm .hl nn s

/-- `LD (HL+),A` (R218). -/
def execLdMHLIncA (s : State) : Out := ldMemHLA 1 s

/-- `LD H,n` (R202). -/
def execLdHN (n : Byte) (s : State) : Out := ldRegImm .h n s

/-- `LD A,(HL+)` (R216). -/
def execLdAMHLInc (s : State) : Out := ldAMemHL 1 s

/-- `LD L,n` (R202). -/
def execLdLN (n : Byte) (s : State) : Out := ldRegImm .l n s

/-- `LD SP,nn` (R220). -/
def execLdSPNN (nn : Word) (s : State) : Out := ldPairImm .sp nn s

/-- `LD (HL-),A` (R219). -/
def execLdMHLDecA (s : State) : Out := ldMemHLA (-1) s

/-- `LD (HL),n` (R205). -/
def execLdMHLN (n : Byte) (s : State) : Out := ldMemImm s.regs.hl n s

/-- `LD A,(HL-)` (R217). -/
def execLdAMHLDec (s : State) : Out := ldAMemHL (-1) s

/-- `LD A,n` (R202). -/
def execLdAN (n : Byte) (s : State) : Out := ldRegImm .a n s

/-- `LD B,B` (R201). -/
def execLdBB (s : State) : Out := ldRegReg .b .b s

/-- `LD B,C` (R201). -/
def execLdBC (s : State) : Out := ldRegReg .b .c s

/-- `LD B,D` (R201). -/
def execLdBD (s : State) : Out := ldRegReg .b .d s

/-- `LD B,E` (R201). -/
def execLdBE (s : State) : Out := ldRegReg .b .e s

/-- `LD B,H` (R201). -/
def execLdBH (s : State) : Out := ldRegReg .b .h s

/-- `LD B,L` (R201). -/
def execLdBL (s : State) : Out := ldRegReg .b .l s

/-- `LD B,(HL)` (R203). -/
def execLdBMHL (s : State) : Out := ldRegMem .b s.regs.hl s

/-- `LD B,A` (R201). -/
def execLdBA (s : State) : Out := ldRegReg .b .a s

/-- `LD C,B` (R201). -/
def execLdCB (s : State) : Out := ldRegReg .c .b s

/-- `LD C,C` (R201). -/
def execLdCC (s : State) : Out := ldRegReg .c .c s

/-- `LD C,D` (R201). -/
def execLdCD (s : State) : Out := ldRegReg .c .d s

/-- `LD C,E` (R201). -/
def execLdCE (s : State) : Out := ldRegReg .c .e s

/-- `LD C,H` (R201). -/
def execLdCH (s : State) : Out := ldRegReg .c .h s

/-- `LD C,L` (R201). -/
def execLdCL (s : State) : Out := ldRegReg .c .l s

/-- `LD C,(HL)` (R203). -/
def execLdCMHL (s : State) : Out := ldRegMem .c s.regs.hl s

/-- `LD C,A` (R201). -/
def execLdCA (s : State) : Out := ldRegReg .c .a s

/-- `LD D,B` (R201). -/
def execLdDB (s : State) : Out := ldRegReg .d .b s

/-- `LD D,C` (R201). -/
def execLdDC (s : State) : Out := ldRegReg .d .c s

/-- `LD D,D` (R201). -/
def execLdDD (s : State) : Out := ldRegReg .d .d s

/-- `LD D,E` (R201). -/
def execLdDE (s : State) : Out := ldRegReg .d .e s

/-- `LD D,H` (R201). -/
def execLdDH (s : State) : Out := ldRegReg .d .h s

/-- `LD D,L` (R201). -/
def execLdDL (s : State) : Out := ldRegReg .d .l s

/-- `LD D,(HL)` (R203). -/
def execLdDMHL (s : State) : Out := ldRegMem .d s.regs.hl s

/-- `LD D,A` (R201). -/
def execLdDA (s : State) : Out := ldRegReg .d .a s

/-- `LD E,B` (R201). -/
def execLdEB (s : State) : Out := ldRegReg .e .b s

/-- `LD E,C` (R201). -/
def execLdEC (s : State) : Out := ldRegReg .e .c s

/-- `LD E,D` (R201). -/
def execLdED (s : State) : Out := ldRegReg .e .d s

/-- `LD E,E` (R201). -/
def execLdEE (s : State) : Out := ldRegReg .e .e s

/-- `LD E,H` (R201). -/
def execLdEH (s : State) : Out := ldRegReg .e .h s

/-- `LD E,L` (R201). -/
def execLdEL (s : State) : Out := ldRegReg .e .l s

/-- `LD E,(HL)` (R203). -/
def execLdEMHL (s : State) : Out := ldRegMem .e s.regs.hl s

/-- `LD E,A` (R201). -/
def execLdEA (s : State) : Out := ldRegReg .e .a s

/-- `LD H,B` (R201). -/
def execLdHB (s : State) : Out := ldRegReg .h .b s

/-- `LD H,C` (R201). -/
def execLdHC (s : State) : Out := ldRegReg .h .c s

/-- `LD H,D` (R201). -/
def execLdHD (s : State) : Out := ldRegReg .h .d s

/-- `LD H,E` (R201). -/
def execLdHE (s : State) : Out := ldRegReg .h .e s

/-- `LD H,H` (R201). -/
def execLdHH (s : State) : Out := ldRegReg .h .h s

/-- `LD H,L` (R201). -/
def execLdHL (s : State) : Out := ldRegReg .h .l s

/-- `LD H,(HL)` (R203). -/
def execLdHMHL (s : State) : Out := ldRegMem .h s.regs.hl s

/-- `LD H,A` (R201). -/
def execLdHA (s : State) : Out := ldRegReg .h .a s

/-- `LD L,B` (R201). -/
def execLdLB (s : State) : Out := ldRegReg .l .b s

/-- `LD L,C` (R201). -/
def execLdLC (s : State) : Out := ldRegReg .l .c s

/-- `LD L,D` (R201). -/
def execLdLD (s : State) : Out := ldRegReg .l .d s

/-- `LD L,E` (R201). -/
def execLdLE (s : State) : Out := ldRegReg .l .e s

/-- `LD L,H` (R201). -/
def execLdLH (s : State) : Out := ldRegReg .l .h s

/-- `LD L,L` (R201). -/
def execLdLL (s : State) : Out := ldRegReg .l .l s

/-- `LD L,(HL)` (R203). -/
def execLdLMHL (s : State) : Out := ldRegMem .l s.regs.hl s

/-- `LD L,A` (R201). -/
def execLdLA (s : State) : Out := ldRegReg .l .a s

/-- `LD (HL),B` (R204). -/
def execLdMHLB (s : State) : Out := ldMemReg s.regs.hl .b s

/-- `LD (HL),C` (R204). -/
def execLdMHLC (s : State) : Out := ldMemReg s.regs.hl .c s

/-- `LD (HL),D` (R204). -/
def execLdMHLD (s : State) : Out := ldMemReg s.regs.hl .d s

/-- `LD (HL),E` (R204). -/
def execLdMHLE (s : State) : Out := ldMemReg s.regs.hl .e s

/-- `LD (HL),H` (R204). -/
def execLdMHLH (s : State) : Out := ldMemReg s.regs.hl .h s

/-- `LD (HL),L` (R204). -/
def execLdMHLL (s : State) : Out := ldMemReg s.regs.hl .l s

/-- `LD (HL),A` (R204). -/
def execLdMHLA (s : State) : Out := ldMemReg s.regs.hl .a s

/-- `LD A,B` (R201). -/
def execLdAB (s : State) : Out := ldRegReg .a .b s

/-- `LD A,C` (R201). -/
def execLdAC (s : State) : Out := ldRegReg .a .c s

/-- `LD A,D` (R201). -/
def execLdAD (s : State) : Out := ldRegReg .a .d s

/-- `LD A,E` (R201). -/
def execLdAE (s : State) : Out := ldRegReg .a .e s

/-- `LD A,H` (R201). -/
def execLdAH (s : State) : Out := ldRegReg .a .h s

/-- `LD A,L` (R201). -/
def execLdAL (s : State) : Out := ldRegReg .a .l s

/-- `LD A,(HL)` (R203). -/
def execLdAMHL (s : State) : Out := ldRegMem .a s.regs.hl s

/-- `LD A,A` (R201). -/
def execLdAA (s : State) : Out := ldRegReg .a .a s

/-- `POP BC` (R233). -/
def execPopBC (s : State) : Out := popPair .bc s

/-- `PUSH BC` (R232). -/
def execPushBC (s : State) : Out := pushPair .bc s

/-- `POP DE` (R233). -/
def execPopDE (s : State) : Out := popPair .de s

/-- `PUSH DE` (R232). -/
def execPushDE (s : State) : Out := pushPair .de s

/-- `LDH (n),A` (R213). -/
def execLdhMNA (n : Byte) (s : State) : Out := ldMemReg (highPage n) .a s

/-- `POP HL` (R233). -/
def execPopHL (s : State) : Out := popPair .hl s

/-- `LD (C),A` (R215). -/
def execLdMCA (s : State) : Out := ldMemReg (highPage s.regs.c) .a s

/-- `PUSH HL` (R232). -/
def execPushHL (s : State) : Out := pushPair .hl s

/-- `LD (nn),A` (R211). -/
def execLdMNNA (nn : Word) (s : State) : Out := ldMemReg nn .a s

/-- `LDH A,(n)` (R212). -/
def execLdhAMN (n : Byte) (s : State) : Out := ldRegMem .a (highPage n) s

/-- `POP AF` (R233). -/
def execPopAF (s : State) : Out := popPair .af s

/-- `LD A,(C)` (R214). -/
def execLdAMC (s : State) : Out := ldRegMem .a (highPage s.regs.c) s

/-- `PUSH AF` (R232). -/
def execPushAF (s : State) : Out := pushPair .af s

/-- `LD SP,HL` (R222). -/
def execLdSPHL (s : State) : Out := .next (s.setSP s.regs.hl)

/-- `LD A,(nn)` (R210). -/
def execLdAMNN (nn : Word) (s : State) : Out := ldRegMem .a nn s

end Sys2Proof.Machine
end

