-- ==== Sys2Proof/Machine/Bit.lean ====
section
/-! DEFINITION. BIT, RES and SET (spec/43_rotate_shift_bit.md R313 to R315). -/

namespace Sys2Proof.Machine

/-! ## Shared operations -/

/-- `Z <- 1 - v[b]; N <- 0; H <- 1`, CY and the operand unchanged (R313). -/
def testBit (b : Ix8) (src : Src8) (s : State) : Out :=
  match readSrc s src with
  | .ok v => .next (s.setFlags (!v.getLsbD (b.index)) false true (s.flag .cy))
  | .error e => .fault e

/-- A read of an operand and a new value written back to it, no flags. -/
def replaceOperand (src : Src8) (f : Byte → Byte) (s : State) : Out :=
  match readSrc s src with
  | .ok v => done (writeSrc s src (f v))
  | .error e => .fault e

/-- RES of an operand (R314). -/
def clearBit (b : Ix8) (src : Src8) (s : State) : Out := replaceOperand src (clearBit8 b) s

/-- SET of an operand (R315). -/
def setBit (b : Ix8) (src : Src8) (s : State) : Out := replaceOperand src (setBit8 b) s

/-! ## One definition for each row of the opcode table -/

/-- `BIT 0,B` (R313). -/
def execBit0B (s : State) : Out := testBit .i0 (.reg .b) s

/-- `BIT 0,C` (R313). -/
def execBit0C (s : State) : Out := testBit .i0 (.reg .c) s

/-- `BIT 0,D` (R313). -/
def execBit0D (s : State) : Out := testBit .i0 (.reg .d) s

/-- `BIT 0,E` (R313). -/
def execBit0E (s : State) : Out := testBit .i0 (.reg .e) s

/-- `BIT 0,H` (R313). -/
def execBit0H (s : State) : Out := testBit .i0 (.reg .h) s

/-- `BIT 0,L` (R313). -/
def execBit0L (s : State) : Out := testBit .i0 (.reg .l) s

/-- `BIT 0,(HL)` (R313). -/
def execBit0MHL (s : State) : Out := testBit .i0 .atHL s

/-- `BIT 0,A` (R313). -/
def execBit0A (s : State) : Out := testBit .i0 (.reg .a) s

/-- `BIT 1,B` (R313). -/
def execBit1B (s : State) : Out := testBit .i1 (.reg .b) s

/-- `BIT 1,C` (R313). -/
def execBit1C (s : State) : Out := testBit .i1 (.reg .c) s

/-- `BIT 1,D` (R313). -/
def execBit1D (s : State) : Out := testBit .i1 (.reg .d) s

/-- `BIT 1,E` (R313). -/
def execBit1E (s : State) : Out := testBit .i1 (.reg .e) s

/-- `BIT 1,H` (R313). -/
def execBit1H (s : State) : Out := testBit .i1 (.reg .h) s

/-- `BIT 1,L` (R313). -/
def execBit1L (s : State) : Out := testBit .i1 (.reg .l) s

/-- `BIT 1,(HL)` (R313). -/
def execBit1MHL (s : State) : Out := testBit .i1 .atHL s

/-- `BIT 1,A` (R313). -/
def execBit1A (s : State) : Out := testBit .i1 (.reg .a) s

/-- `BIT 2,B` (R313). -/
def execBit2B (s : State) : Out := testBit .i2 (.reg .b) s

/-- `BIT 2,C` (R313). -/
def execBit2C (s : State) : Out := testBit .i2 (.reg .c) s

/-- `BIT 2,D` (R313). -/
def execBit2D (s : State) : Out := testBit .i2 (.reg .d) s

/-- `BIT 2,E` (R313). -/
def execBit2E (s : State) : Out := testBit .i2 (.reg .e) s

/-- `BIT 2,H` (R313). -/
def execBit2H (s : State) : Out := testBit .i2 (.reg .h) s

/-- `BIT 2,L` (R313). -/
def execBit2L (s : State) : Out := testBit .i2 (.reg .l) s

/-- `BIT 2,(HL)` (R313). -/
def execBit2MHL (s : State) : Out := testBit .i2 .atHL s

/-- `BIT 2,A` (R313). -/
def execBit2A (s : State) : Out := testBit .i2 (.reg .a) s

/-- `BIT 3,B` (R313). -/
def execBit3B (s : State) : Out := testBit .i3 (.reg .b) s

/-- `BIT 3,C` (R313). -/
def execBit3C (s : State) : Out := testBit .i3 (.reg .c) s

/-- `BIT 3,D` (R313). -/
def execBit3D (s : State) : Out := testBit .i3 (.reg .d) s

/-- `BIT 3,E` (R313). -/
def execBit3E (s : State) : Out := testBit .i3 (.reg .e) s

/-- `BIT 3,H` (R313). -/
def execBit3H (s : State) : Out := testBit .i3 (.reg .h) s

/-- `BIT 3,L` (R313). -/
def execBit3L (s : State) : Out := testBit .i3 (.reg .l) s

/-- `BIT 3,(HL)` (R313). -/
def execBit3MHL (s : State) : Out := testBit .i3 .atHL s

/-- `BIT 3,A` (R313). -/
def execBit3A (s : State) : Out := testBit .i3 (.reg .a) s

/-- `BIT 4,B` (R313). -/
def execBit4B (s : State) : Out := testBit .i4 (.reg .b) s

/-- `BIT 4,C` (R313). -/
def execBit4C (s : State) : Out := testBit .i4 (.reg .c) s

/-- `BIT 4,D` (R313). -/
def execBit4D (s : State) : Out := testBit .i4 (.reg .d) s

/-- `BIT 4,E` (R313). -/
def execBit4E (s : State) : Out := testBit .i4 (.reg .e) s

/-- `BIT 4,H` (R313). -/
def execBit4H (s : State) : Out := testBit .i4 (.reg .h) s

/-- `BIT 4,L` (R313). -/
def execBit4L (s : State) : Out := testBit .i4 (.reg .l) s

/-- `BIT 4,(HL)` (R313). -/
def execBit4MHL (s : State) : Out := testBit .i4 .atHL s

/-- `BIT 4,A` (R313). -/
def execBit4A (s : State) : Out := testBit .i4 (.reg .a) s

/-- `BIT 5,B` (R313). -/
def execBit5B (s : State) : Out := testBit .i5 (.reg .b) s

/-- `BIT 5,C` (R313). -/
def execBit5C (s : State) : Out := testBit .i5 (.reg .c) s

/-- `BIT 5,D` (R313). -/
def execBit5D (s : State) : Out := testBit .i5 (.reg .d) s

/-- `BIT 5,E` (R313). -/
def execBit5E (s : State) : Out := testBit .i5 (.reg .e) s

/-- `BIT 5,H` (R313). -/
def execBit5H (s : State) : Out := testBit .i5 (.reg .h) s

/-- `BIT 5,L` (R313). -/
def execBit5L (s : State) : Out := testBit .i5 (.reg .l) s

/-- `BIT 5,(HL)` (R313). -/
def execBit5MHL (s : State) : Out := testBit .i5 .atHL s

/-- `BIT 5,A` (R313). -/
def execBit5A (s : State) : Out := testBit .i5 (.reg .a) s

/-- `BIT 6,B` (R313). -/
def execBit6B (s : State) : Out := testBit .i6 (.reg .b) s

/-- `BIT 6,C` (R313). -/
def execBit6C (s : State) : Out := testBit .i6 (.reg .c) s

/-- `BIT 6,D` (R313). -/
def execBit6D (s : State) : Out := testBit .i6 (.reg .d) s

/-- `BIT 6,E` (R313). -/
def execBit6E (s : State) : Out := testBit .i6 (.reg .e) s

/-- `BIT 6,H` (R313). -/
def execBit6H (s : State) : Out := testBit .i6 (.reg .h) s

/-- `BIT 6,L` (R313). -/
def execBit6L (s : State) : Out := testBit .i6 (.reg .l) s

/-- `BIT 6,(HL)` (R313). -/
def execBit6MHL (s : State) : Out := testBit .i6 .atHL s

/-- `BIT 6,A` (R313). -/
def execBit6A (s : State) : Out := testBit .i6 (.reg .a) s

/-- `BIT 7,B` (R313). -/
def execBit7B (s : State) : Out := testBit .i7 (.reg .b) s

/-- `BIT 7,C` (R313). -/
def execBit7C (s : State) : Out := testBit .i7 (.reg .c) s

/-- `BIT 7,D` (R313). -/
def execBit7D (s : State) : Out := testBit .i7 (.reg .d) s

/-- `BIT 7,E` (R313). -/
def execBit7E (s : State) : Out := testBit .i7 (.reg .e) s

/-- `BIT 7,H` (R313). -/
def execBit7H (s : State) : Out := testBit .i7 (.reg .h) s

/-- `BIT 7,L` (R313). -/
def execBit7L (s : State) : Out := testBit .i7 (.reg .l) s

/-- `BIT 7,(HL)` (R313). -/
def execBit7MHL (s : State) : Out := testBit .i7 .atHL s

/-- `BIT 7,A` (R313). -/
def execBit7A (s : State) : Out := testBit .i7 (.reg .a) s

/-- `RES 0,B` (R314). -/
def execRes0B (s : State) : Out := clearBit .i0 (.reg .b) s

/-- `RES 0,C` (R314). -/
def execRes0C (s : State) : Out := clearBit .i0 (.reg .c) s

/-- `RES 0,D` (R314). -/
def execRes0D (s : State) : Out := clearBit .i0 (.reg .d) s

/-- `RES 0,E` (R314). -/
def execRes0E (s : State) : Out := clearBit .i0 (.reg .e) s

/-- `RES 0,H` (R314). -/
def execRes0H (s : State) : Out := clearBit .i0 (.reg .h) s

/-- `RES 0,L` (R314). -/
def execRes0L (s : State) : Out := clearBit .i0 (.reg .l) s

/-- `RES 0,(HL)` (R314). -/
def execRes0MHL (s : State) : Out := clearBit .i0 .atHL s

/-- `RES 0,A` (R314). -/
def execRes0A (s : State) : Out := clearBit .i0 (.reg .a) s

/-- `RES 1,B` (R314). -/
def execRes1B (s : State) : Out := clearBit .i1 (.reg .b) s

/-- `RES 1,C` (R314). -/
def execRes1C (s : State) : Out := clearBit .i1 (.reg .c) s

/-- `RES 1,D` (R314). -/
def execRes1D (s : State) : Out := clearBit .i1 (.reg .d) s

/-- `RES 1,E` (R314). -/
def execRes1E (s : State) : Out := clearBit .i1 (.reg .e) s

/-- `RES 1,H` (R314). -/
def execRes1H (s : State) : Out := clearBit .i1 (.reg .h) s

/-- `RES 1,L` (R314). -/
def execRes1L (s : State) : Out := clearBit .i1 (.reg .l) s

/-- `RES 1,(HL)` (R314). -/
def execRes1MHL (s : State) : Out := clearBit .i1 .atHL s

/-- `RES 1,A` (R314). -/
def execRes1A (s : State) : Out := clearBit .i1 (.reg .a) s

/-- `RES 2,B` (R314). -/
def execRes2B (s : State) : Out := clearBit .i2 (.reg .b) s

/-- `RES 2,C` (R314). -/
def execRes2C (s : State) : Out := clearBit .i2 (.reg .c) s

/-- `RES 2,D` (R314). -/
def execRes2D (s : State) : Out := clearBit .i2 (.reg .d) s

/-- `RES 2,E` (R314). -/
def execRes2E (s : State) : Out := clearBit .i2 (.reg .e) s

/-- `RES 2,H` (R314). -/
def execRes2H (s : State) : Out := clearBit .i2 (.reg .h) s

/-- `RES 2,L` (R314). -/
def execRes2L (s : State) : Out := clearBit .i2 (.reg .l) s

/-- `RES 2,(HL)` (R314). -/
def execRes2MHL (s : State) : Out := clearBit .i2 .atHL s

/-- `RES 2,A` (R314). -/
def execRes2A (s : State) : Out := clearBit .i2 (.reg .a) s

/-- `RES 3,B` (R314). -/
def execRes3B (s : State) : Out := clearBit .i3 (.reg .b) s

/-- `RES 3,C` (R314). -/
def execRes3C (s : State) : Out := clearBit .i3 (.reg .c) s

/-- `RES 3,D` (R314). -/
def execRes3D (s : State) : Out := clearBit .i3 (.reg .d) s

/-- `RES 3,E` (R314). -/
def execRes3E (s : State) : Out := clearBit .i3 (.reg .e) s

/-- `RES 3,H` (R314). -/
def execRes3H (s : State) : Out := clearBit .i3 (.reg .h) s

/-- `RES 3,L` (R314). -/
def execRes3L (s : State) : Out := clearBit .i3 (.reg .l) s

/-- `RES 3,(HL)` (R314). -/
def execRes3MHL (s : State) : Out := clearBit .i3 .atHL s

/-- `RES 3,A` (R314). -/
def execRes3A (s : State) : Out := clearBit .i3 (.reg .a) s

/-- `RES 4,B` (R314). -/
def execRes4B (s : State) : Out := clearBit .i4 (.reg .b) s

/-- `RES 4,C` (R314). -/
def execRes4C (s : State) : Out := clearBit .i4 (.reg .c) s

/-- `RES 4,D` (R314). -/
def execRes4D (s : State) : Out := clearBit .i4 (.reg .d) s

/-- `RES 4,E` (R314). -/
def execRes4E (s : State) : Out := clearBit .i4 (.reg .e) s

/-- `RES 4,H` (R314). -/
def execRes4H (s : State) : Out := clearBit .i4 (.reg .h) s

/-- `RES 4,L` (R314). -/
def execRes4L (s : State) : Out := clearBit .i4 (.reg .l) s

/-- `RES 4,(HL)` (R314). -/
def execRes4MHL (s : State) : Out := clearBit .i4 .atHL s

/-- `RES 4,A` (R314). -/
def execRes4A (s : State) : Out := clearBit .i4 (.reg .a) s

/-- `RES 5,B` (R314). -/
def execRes5B (s : State) : Out := clearBit .i5 (.reg .b) s

/-- `RES 5,C` (R314). -/
def execRes5C (s : State) : Out := clearBit .i5 (.reg .c) s

/-- `RES 5,D` (R314). -/
def execRes5D (s : State) : Out := clearBit .i5 (.reg .d) s

/-- `RES 5,E` (R314). -/
def execRes5E (s : State) : Out := clearBit .i5 (.reg .e) s

/-- `RES 5,H` (R314). -/
def execRes5H (s : State) : Out := clearBit .i5 (.reg .h) s

/-- `RES 5,L` (R314). -/
def execRes5L (s : State) : Out := clearBit .i5 (.reg .l) s

/-- `RES 5,(HL)` (R314). -/
def execRes5MHL (s : State) : Out := clearBit .i5 .atHL s

/-- `RES 5,A` (R314). -/
def execRes5A (s : State) : Out := clearBit .i5 (.reg .a) s

/-- `RES 6,B` (R314). -/
def execRes6B (s : State) : Out := clearBit .i6 (.reg .b) s

/-- `RES 6,C` (R314). -/
def execRes6C (s : State) : Out := clearBit .i6 (.reg .c) s

/-- `RES 6,D` (R314). -/
def execRes6D (s : State) : Out := clearBit .i6 (.reg .d) s

/-- `RES 6,E` (R314). -/
def execRes6E (s : State) : Out := clearBit .i6 (.reg .e) s

/-- `RES 6,H` (R314). -/
def execRes6H (s : State) : Out := clearBit .i6 (.reg .h) s

/-- `RES 6,L` (R314). -/
def execRes6L (s : State) : Out := clearBit .i6 (.reg .l) s

/-- `RES 6,(HL)` (R314). -/
def execRes6MHL (s : State) : Out := clearBit .i6 .atHL s

/-- `RES 6,A` (R314). -/
def execRes6A (s : State) : Out := clearBit .i6 (.reg .a) s

/-- `RES 7,B` (R314). -/
def execRes7B (s : State) : Out := clearBit .i7 (.reg .b) s

/-- `RES 7,C` (R314). -/
def execRes7C (s : State) : Out := clearBit .i7 (.reg .c) s

/-- `RES 7,D` (R314). -/
def execRes7D (s : State) : Out := clearBit .i7 (.reg .d) s

/-- `RES 7,E` (R314). -/
def execRes7E (s : State) : Out := clearBit .i7 (.reg .e) s

/-- `RES 7,H` (R314). -/
def execRes7H (s : State) : Out := clearBit .i7 (.reg .h) s

/-- `RES 7,L` (R314). -/
def execRes7L (s : State) : Out := clearBit .i7 (.reg .l) s

/-- `RES 7,(HL)` (R314). -/
def execRes7MHL (s : State) : Out := clearBit .i7 .atHL s

/-- `RES 7,A` (R314). -/
def execRes7A (s : State) : Out := clearBit .i7 (.reg .a) s

/-- `SET 0,B` (R315). -/
def execSet0B (s : State) : Out := setBit .i0 (.reg .b) s

/-- `SET 0,C` (R315). -/
def execSet0C (s : State) : Out := setBit .i0 (.reg .c) s

/-- `SET 0,D` (R315). -/
def execSet0D (s : State) : Out := setBit .i0 (.reg .d) s

/-- `SET 0,E` (R315). -/
def execSet0E (s : State) : Out := setBit .i0 (.reg .e) s

/-- `SET 0,H` (R315). -/
def execSet0H (s : State) : Out := setBit .i0 (.reg .h) s

/-- `SET 0,L` (R315). -/
def execSet0L (s : State) : Out := setBit .i0 (.reg .l) s

/-- `SET 0,(HL)` (R315). -/
def execSet0MHL (s : State) : Out := setBit .i0 .atHL s

/-- `SET 0,A` (R315). -/
def execSet0A (s : State) : Out := setBit .i0 (.reg .a) s

/-- `SET 1,B` (R315). -/
def execSet1B (s : State) : Out := setBit .i1 (.reg .b) s

/-- `SET 1,C` (R315). -/
def execSet1C (s : State) : Out := setBit .i1 (.reg .c) s

/-- `SET 1,D` (R315). -/
def execSet1D (s : State) : Out := setBit .i1 (.reg .d) s

/-- `SET 1,E` (R315). -/
def execSet1E (s : State) : Out := setBit .i1 (.reg .e) s

/-- `SET 1,H` (R315). -/
def execSet1H (s : State) : Out := setBit .i1 (.reg .h) s

/-- `SET 1,L` (R315). -/
def execSet1L (s : State) : Out := setBit .i1 (.reg .l) s

/-- `SET 1,(HL)` (R315). -/
def execSet1MHL (s : State) : Out := setBit .i1 .atHL s

/-- `SET 1,A` (R315). -/
def execSet1A (s : State) : Out := setBit .i1 (.reg .a) s

/-- `SET 2,B` (R315). -/
def execSet2B (s : State) : Out := setBit .i2 (.reg .b) s

/-- `SET 2,C` (R315). -/
def execSet2C (s : State) : Out := setBit .i2 (.reg .c) s

/-- `SET 2,D` (R315). -/
def execSet2D (s : State) : Out := setBit .i2 (.reg .d) s

/-- `SET 2,E` (R315). -/
def execSet2E (s : State) : Out := setBit .i2 (.reg .e) s

/-- `SET 2,H` (R315). -/
def execSet2H (s : State) : Out := setBit .i2 (.reg .h) s

/-- `SET 2,L` (R315). -/
def execSet2L (s : State) : Out := setBit .i2 (.reg .l) s

/-- `SET 2,(HL)` (R315). -/
def execSet2MHL (s : State) : Out := setBit .i2 .atHL s

/-- `SET 2,A` (R315). -/
def execSet2A (s : State) : Out := setBit .i2 (.reg .a) s

/-- `SET 3,B` (R315). -/
def execSet3B (s : State) : Out := setBit .i3 (.reg .b) s

/-- `SET 3,C` (R315). -/
def execSet3C (s : State) : Out := setBit .i3 (.reg .c) s

/-- `SET 3,D` (R315). -/
def execSet3D (s : State) : Out := setBit .i3 (.reg .d) s

/-- `SET 3,E` (R315). -/
def execSet3E (s : State) : Out := setBit .i3 (.reg .e) s

/-- `SET 3,H` (R315). -/
def execSet3H (s : State) : Out := setBit .i3 (.reg .h) s

/-- `SET 3,L` (R315). -/
def execSet3L (s : State) : Out := setBit .i3 (.reg .l) s

/-- `SET 3,(HL)` (R315). -/
def execSet3MHL (s : State) : Out := setBit .i3 .atHL s

/-- `SET 3,A` (R315). -/
def execSet3A (s : State) : Out := setBit .i3 (.reg .a) s

/-- `SET 4,B` (R315). -/
def execSet4B (s : State) : Out := setBit .i4 (.reg .b) s

/-- `SET 4,C` (R315). -/
def execSet4C (s : State) : Out := setBit .i4 (.reg .c) s

/-- `SET 4,D` (R315). -/
def execSet4D (s : State) : Out := setBit .i4 (.reg .d) s

/-- `SET 4,E` (R315). -/
def execSet4E (s : State) : Out := setBit .i4 (.reg .e) s

/-- `SET 4,H` (R315). -/
def execSet4H (s : State) : Out := setBit .i4 (.reg .h) s

/-- `SET 4,L` (R315). -/
def execSet4L (s : State) : Out := setBit .i4 (.reg .l) s

/-- `SET 4,(HL)` (R315). -/
def execSet4MHL (s : State) : Out := setBit .i4 .atHL s

/-- `SET 4,A` (R315). -/
def execSet4A (s : State) : Out := setBit .i4 (.reg .a) s

/-- `SET 5,B` (R315). -/
def execSet5B (s : State) : Out := setBit .i5 (.reg .b) s

/-- `SET 5,C` (R315). -/
def execSet5C (s : State) : Out := setBit .i5 (.reg .c) s

/-- `SET 5,D` (R315). -/
def execSet5D (s : State) : Out := setBit .i5 (.reg .d) s

/-- `SET 5,E` (R315). -/
def execSet5E (s : State) : Out := setBit .i5 (.reg .e) s

/-- `SET 5,H` (R315). -/
def execSet5H (s : State) : Out := setBit .i5 (.reg .h) s

/-- `SET 5,L` (R315). -/
def execSet5L (s : State) : Out := setBit .i5 (.reg .l) s

/-- `SET 5,(HL)` (R315). -/
def execSet5MHL (s : State) : Out := setBit .i5 .atHL s

/-- `SET 5,A` (R315). -/
def execSet5A (s : State) : Out := setBit .i5 (.reg .a) s

/-- `SET 6,B` (R315). -/
def execSet6B (s : State) : Out := setBit .i6 (.reg .b) s

/-- `SET 6,C` (R315). -/
def execSet6C (s : State) : Out := setBit .i6 (.reg .c) s

/-- `SET 6,D` (R315). -/
def execSet6D (s : State) : Out := setBit .i6 (.reg .d) s

/-- `SET 6,E` (R315). -/
def execSet6E (s : State) : Out := setBit .i6 (.reg .e) s

/-- `SET 6,H` (R315). -/
def execSet6H (s : State) : Out := setBit .i6 (.reg .h) s

/-- `SET 6,L` (R315). -/
def execSet6L (s : State) : Out := setBit .i6 (.reg .l) s

/-- `SET 6,(HL)` (R315). -/
def execSet6MHL (s : State) : Out := setBit .i6 .atHL s

/-- `SET 6,A` (R315). -/
def execSet6A (s : State) : Out := setBit .i6 (.reg .a) s

/-- `SET 7,B` (R315). -/
def execSet7B (s : State) : Out := setBit .i7 (.reg .b) s

/-- `SET 7,C` (R315). -/
def execSet7C (s : State) : Out := setBit .i7 (.reg .c) s

/-- `SET 7,D` (R315). -/
def execSet7D (s : State) : Out := setBit .i7 (.reg .d) s

/-- `SET 7,E` (R315). -/
def execSet7E (s : State) : Out := setBit .i7 (.reg .e) s

/-- `SET 7,H` (R315). -/
def execSet7H (s : State) : Out := setBit .i7 (.reg .h) s

/-- `SET 7,L` (R315). -/
def execSet7L (s : State) : Out := setBit .i7 (.reg .l) s

/-- `SET 7,(HL)` (R315). -/
def execSet7MHL (s : State) : Out := setBit .i7 .atHL s

/-- `SET 7,A` (R315). -/
def execSet7A (s : State) : Out := setBit .i7 (.reg .a) s

end Sys2Proof.Machine
end

