-- ==== Sys2Proof/Machine/Rotate.lean ====
section
/-! DEFINITION. Rotates, shifts and SWAP (spec/43_rotate_shift_bit.md R300 to R312). -/

namespace Sys2Proof.Machine

/-! ## Shared operations -/

/-- The accumulator rotates (R301 to R304). -/
def rotateA (op : RotOp) (s : State) : Out := .next (storeA s (rotA8 op s.regs.a (s.flag .cy)))

/-- A rotate, shift or SWAP of the `0xCB` page (R300, R305 to R312). -/
def rotateOperand (op : RotOp) (src : Src8) (s : State) : Out :=
  modifyOperand src (fun v => rot8 op v (s.flag .cy)) s

/-! ## One definition for each row of the opcode table -/

/-- `RLCA` (R301). -/
def execRlca (s : State) : Out := rotateA .rlc s

/-- `RRCA` (R302). -/
def execRrca (s : State) : Out := rotateA .rrc s

/-- `RLA` (R303). -/
def execRla (s : State) : Out := rotateA .rl s

/-- `RRA` (R304). -/
def execRra (s : State) : Out := rotateA .rr s

/-- `RLC B` (R305). -/
def execRlcB (s : State) : Out := rotateOperand .rlc (.reg .b) s

/-- `RLC C` (R305). -/
def execRlcC (s : State) : Out := rotateOperand .rlc (.reg .c) s

/-- `RLC D` (R305). -/
def execRlcD (s : State) : Out := rotateOperand .rlc (.reg .d) s

/-- `RLC E` (R305). -/
def execRlcE (s : State) : Out := rotateOperand .rlc (.reg .e) s

/-- `RLC H` (R305). -/
def execRlcH (s : State) : Out := rotateOperand .rlc (.reg .h) s

/-- `RLC L` (R305). -/
def execRlcL (s : State) : Out := rotateOperand .rlc (.reg .l) s

/-- `RLC (HL)` (R305). -/
def execRlcMHL (s : State) : Out := rotateOperand .rlc .atHL s

/-- `RLC A` (R305). -/
def execRlcA (s : State) : Out := rotateOperand .rlc (.reg .a) s

/-- `RRC B` (R306). -/
def execRrcB (s : State) : Out := rotateOperand .rrc (.reg .b) s

/-- `RRC C` (R306). -/
def execRrcC (s : State) : Out := rotateOperand .rrc (.reg .c) s

/-- `RRC D` (R306). -/
def execRrcD (s : State) : Out := rotateOperand .rrc (.reg .d) s

/-- `RRC E` (R306). -/
def execRrcE (s : State) : Out := rotateOperand .rrc (.reg .e) s

/-- `RRC H` (R306). -/
def execRrcH (s : State) : Out := rotateOperand .rrc (.reg .h) s

/-- `RRC L` (R306). -/
def execRrcL (s : State) : Out := rotateOperand .rrc (.reg .l) s

/-- `RRC (HL)` (R306). -/
def execRrcMHL (s : State) : Out := rotateOperand .rrc .atHL s

/-- `RRC A` (R306). -/
def execRrcA (s : State) : Out := rotateOperand .rrc (.reg .a) s

/-- `RL B` (R307). -/
def execRlB (s : State) : Out := rotateOperand .rl (.reg .b) s

/-- `RL C` (R307). -/
def execRlC (s : State) : Out := rotateOperand .rl (.reg .c) s

/-- `RL D` (R307). -/
def execRlD (s : State) : Out := rotateOperand .rl (.reg .d) s

/-- `RL E` (R307). -/
def execRlE (s : State) : Out := rotateOperand .rl (.reg .e) s

/-- `RL H` (R307). -/
def execRlH (s : State) : Out := rotateOperand .rl (.reg .h) s

/-- `RL L` (R307). -/
def execRlL (s : State) : Out := rotateOperand .rl (.reg .l) s

/-- `RL (HL)` (R307). -/
def execRlMHL (s : State) : Out := rotateOperand .rl .atHL s

/-- `RL A` (R307). -/
def execRlA (s : State) : Out := rotateOperand .rl (.reg .a) s

/-- `RR B` (R308). -/
def execRrB (s : State) : Out := rotateOperand .rr (.reg .b) s

/-- `RR C` (R308). -/
def execRrC (s : State) : Out := rotateOperand .rr (.reg .c) s

/-- `RR D` (R308). -/
def execRrD (s : State) : Out := rotateOperand .rr (.reg .d) s

/-- `RR E` (R308). -/
def execRrE (s : State) : Out := rotateOperand .rr (.reg .e) s

/-- `RR H` (R308). -/
def execRrH (s : State) : Out := rotateOperand .rr (.reg .h) s

/-- `RR L` (R308). -/
def execRrL (s : State) : Out := rotateOperand .rr (.reg .l) s

/-- `RR (HL)` (R308). -/
def execRrMHL (s : State) : Out := rotateOperand .rr .atHL s

/-- `RR A` (R308). -/
def execRrA (s : State) : Out := rotateOperand .rr (.reg .a) s

/-- `SLA B` (R309). -/
def execSlaB (s : State) : Out := rotateOperand .sla (.reg .b) s

/-- `SLA C` (R309). -/
def execSlaC (s : State) : Out := rotateOperand .sla (.reg .c) s

/-- `SLA D` (R309). -/
def execSlaD (s : State) : Out := rotateOperand .sla (.reg .d) s

/-- `SLA E` (R309). -/
def execSlaE (s : State) : Out := rotateOperand .sla (.reg .e) s

/-- `SLA H` (R309). -/
def execSlaH (s : State) : Out := rotateOperand .sla (.reg .h) s

/-- `SLA L` (R309). -/
def execSlaL (s : State) : Out := rotateOperand .sla (.reg .l) s

/-- `SLA (HL)` (R309). -/
def execSlaMHL (s : State) : Out := rotateOperand .sla .atHL s

/-- `SLA A` (R309). -/
def execSlaA (s : State) : Out := rotateOperand .sla (.reg .a) s

/-- `SRA B` (R310). -/
def execSraB (s : State) : Out := rotateOperand .sra (.reg .b) s

/-- `SRA C` (R310). -/
def execSraC (s : State) : Out := rotateOperand .sra (.reg .c) s

/-- `SRA D` (R310). -/
def execSraD (s : State) : Out := rotateOperand .sra (.reg .d) s

/-- `SRA E` (R310). -/
def execSraE (s : State) : Out := rotateOperand .sra (.reg .e) s

/-- `SRA H` (R310). -/
def execSraH (s : State) : Out := rotateOperand .sra (.reg .h) s

/-- `SRA L` (R310). -/
def execSraL (s : State) : Out := rotateOperand .sra (.reg .l) s

/-- `SRA (HL)` (R310). -/
def execSraMHL (s : State) : Out := rotateOperand .sra .atHL s

/-- `SRA A` (R310). -/
def execSraA (s : State) : Out := rotateOperand .sra (.reg .a) s

/-- `SWAP B` (R311). -/
def execSwapB (s : State) : Out := rotateOperand .swap (.reg .b) s

/-- `SWAP C` (R311). -/
def execSwapC (s : State) : Out := rotateOperand .swap (.reg .c) s

/-- `SWAP D` (R311). -/
def execSwapD (s : State) : Out := rotateOperand .swap (.reg .d) s

/-- `SWAP E` (R311). -/
def execSwapE (s : State) : Out := rotateOperand .swap (.reg .e) s

/-- `SWAP H` (R311). -/
def execSwapH (s : State) : Out := rotateOperand .swap (.reg .h) s

/-- `SWAP L` (R311). -/
def execSwapL (s : State) : Out := rotateOperand .swap (.reg .l) s

/-- `SWAP (HL)` (R311). -/
def execSwapMHL (s : State) : Out := rotateOperand .swap .atHL s

/-- `SWAP A` (R311). -/
def execSwapA (s : State) : Out := rotateOperand .swap (.reg .a) s

/-- `SRL B` (R312). -/
def execSrlB (s : State) : Out := rotateOperand .srl (.reg .b) s

/-- `SRL C` (R312). -/
def execSrlC (s : State) : Out := rotateOperand .srl (.reg .c) s

/-- `SRL D` (R312). -/
def execSrlD (s : State) : Out := rotateOperand .srl (.reg .d) s

/-- `SRL E` (R312). -/
def execSrlE (s : State) : Out := rotateOperand .srl (.reg .e) s

/-- `SRL H` (R312). -/
def execSrlH (s : State) : Out := rotateOperand .srl (.reg .h) s

/-- `SRL L` (R312). -/
def execSrlL (s : State) : Out := rotateOperand .srl (.reg .l) s

/-- `SRL (HL)` (R312). -/
def execSrlMHL (s : State) : Out := rotateOperand .srl .atHL s

/-- `SRL A` (R312). -/
def execSrlA (s : State) : Out := rotateOperand .srl (.reg .a) s

end Sys2Proof.Machine
end

