-- ==== Sys2Proof/Machine/Prefix.lean ====
section
/-! DEFINITION. The `0xCB` prefix with its second byte (spec/45_system.md R376, spec/30_encoding.md R131). Decoding
gives the pair as an instruction of the `0xCB` page, never as this row. -/

namespace Sys2Proof.Machine

/-! ## Shared operations -/

/-- The instruction of the `0xCB` page that a second byte selects by its fields (R131). -/
def cbPage (second : Byte) (s : State) : Out :=
  match fieldX second with
  | 0 => rotateOperand (rotTable (fieldY second)) (r8Table (fieldZ second)) s
  | 1 => testBit (ix8 (fieldY second)) (r8Table (fieldZ second)) s
  | 2 => clearBit (ix8 (fieldY second)) (r8Table (fieldZ second)) s
  | _ => setBit (ix8 (fieldY second)) (r8Table (fieldZ second)) s

/-! ## One definition for each row of the opcode table -/

/-- `PREFIX CB` (R376). -/
def execPrefixCB (second : Byte) (s : State) : Out := cbPage second s

end Sys2Proof.Machine
end

