-- ==== Sys2Proof/Machine/System.lean ====
section
/-! DEFINITION. NOP, STOP, HALT, DI, EI and the undefined opcodes (spec/45_system.md). -/

namespace Sys2Proof.Machine

/-! ## Shared operations -/

/-- DI (R373). -/
def disableInterrupts (s : State) : Out :=
  .next { s with ime := false, eiPending := if s.params.eiDelay then false else s.eiPending }

/-- EI by the parameter `EI_DELAY` (R374). DESIGN CHOICE (log entry 21): with `EI_DELAY = 1` and IME already set the
pseudocode of R374 sets EI_pending and its corner case says that nothing changes; the pseudocode is followed. -/
def enableInterrupts (s : State) : Out :=
  .next { s with ime := if s.params.eiDelay then s.ime else true
                 eiPending := if s.params.eiDelay then true else s.eiPending }

/-! ## One definition for each row of the opcode table -/

/-- `NOP` (R370). -/
def execNop (s : State) : Out := .next s

/-- `STOP` (R371). -/
def execStop (_n : Byte) (s : State) : Out := .fault (.unmodelledStop (s.pc - 2))

/-- `HALT` (R372). -/
def execHalt (s : State) : Out := .next { s with halted := true }

/-- `undefined 0xD3` (R375). -/
def execUndefD3 (_s : State) : Out := .fault (.undefinedOpcode 0xD3)

/-- `undefined 0xDB` (R375). -/
def execUndefDB (_s : State) : Out := .fault (.undefinedOpcode 0xDB)

/-- `undefined 0xDD` (R375). -/
def execUndefDD (_s : State) : Out := .fault (.undefinedOpcode 0xDD)

/-- `undefined 0xE3` (R375). -/
def execUndefE3 (_s : State) : Out := .fault (.undefinedOpcode 0xE3)

/-- `undefined 0xE4` (R375). -/
def execUndefE4 (_s : State) : Out := .fault (.undefinedOpcode 0xE4)

/-- `undefined 0xEB` (R375). -/
def execUndefEB (_s : State) : Out := .fault (.undefinedOpcode 0xEB)

/-- `undefined 0xEC` (R375). -/
def execUndefEC (_s : State) : Out := .fault (.undefinedOpcode 0xEC)

/-- `undefined 0xED` (R375). -/
def execUndefED (_s : State) : Out := .fault (.undefinedOpcode 0xED)

/-- `DI` (R373). -/
def execDi (s : State) : Out := disableInterrupts s

/-- `undefined 0xF4` (R375). -/
def execUndefF4 (_s : State) : Out := .fault (.undefinedOpcode 0xF4)

/-- `EI` (R374). -/
def execEi (s : State) : Out := enableInterrupts s

/-- `undefined 0xFC` (R375). -/
def execUndefFC (_s : State) : Out := .fault (.undefinedOpcode 0xFC)

/-- `undefined 0xFD` (R375). -/
def execUndefFD (_s : State) : Out := .fault (.undefinedOpcode 0xFD)

end Sys2Proof.Machine
end

