-- ==== Sys2Proof/Machine/Fetch.lean ====
section
/-! DEFINITION. Fetching and decoding the instruction at an address (spec/30_encoding.md R120, R121), and the
placing of an instruction where the next step fetches. -/

namespace Sys2Proof.Machine

/-! ## Fetch and decode -/

/-- Byte `k` of the instruction at `addr`: a bus read, or `DECODE_PAST_END` beyond `0xFFFF` (R121). -/
def fetchByte (s : State) (addr : Word) (k : Nat) : Except Fault Byte :=
  if addr.toNat + k ≤ 0xFFFF then busRead s (addr + BitVec.ofNat 16 k) else .error (.decodePastEnd addr)

/-- The bytes `k, k+1, ...` of the instruction at `addr`, as many as `count`, in increasing address (R121). -/
def fetchFrom (s : State) (addr : Word) : Nat → Nat → Except Fault (List Byte)
  | _, 0 => .ok []
  | k, count + 1 =>
    match fetchByte s addr k with
    | .ok b =>
      match fetchFrom s addr (k + 1) count with
      | .ok rest => .ok (b :: rest)
      | .error e => .error e
    | .error e => .error e

/-- The bytes of the instruction at `addr`, the number of them known from the first (R120, R121). -/
def fetch (s : State) (addr : Word) : Except Fault (List Byte) :=
  match fetchByte s addr 0 with
  | .ok op =>
    match fetchFrom s addr 1 (opLength op - 1) with
    | .ok rest => .ok (op :: rest)
    | .error e => .error e
  | .error e => .error e

/-- What `decode(address)` gives besides the instruction: its size and its base cost (R121). -/
structure Fetched where
  instr : Instr
  size : Nat
  cycles : Nat
  deriving DecidableEq, Repr

/-- `decode(address) -> (Instruction, size_in_bytes, base_cycle_cost)` (R121). The bytes fetched are always enough,
so the `UNREACHABLE_DECODE` of R133 is never raised. -/
def decodeAt (s : State) (addr : Word) : Except Fault Fetched :=
  match fetch s addr with
  | .ok bytes =>
    match decode bytes with
    | .ok i size cycles => .ok { instr := i, size := size, cycles := cycles }
    | .reject _ => .error (.unreachableDecode (bytes.headD 0))
  | .error e => .error e

/-! ## Placing an instruction -/

/-- The address is backed by a byte of the state that a bus read returns. -/
def placeable (s : State) (a : Word) : Bool :=
  match route a with
  | .intFlag => true
  | .intEnable => true
  | .romFixed _ => true
  | .romSwitch _ => true
  | .wram _ => true
  | .hram _ => true
  | .extRam i =>
    match s.extRamAccess a i with
    | .ok (some _) => true
    | _ => false
  | .dmaTrigger => false
  | .vram => false
  | .oam => false
  | .unmapped => false
  | .audio => false
  | .display => false
  | .hole => false

/-- The state with the byte behind an address replaced: the image of the cartridge or the contents of a RAM, from
outside the machine. It is no bus write. -/
def placeByte (s : State) (a : Word) (v : Byte) : State :=
  match route a with
  | .intFlag => { s with ifReg := v }
  | .intEnable => { s with ieReg := v }
  | .romFixed i => { s with rom := s.rom.write i v }
  | .romSwitch i => { s with rom := s.rom.write (s.romOffset i) v }
  | .wram i => { s with wram := s.wram.write i v }
  | .hram i => { s with hram := s.hram.write i v }
  | .extRam i =>
    match s.extRamAccess a i with
    | .ok (some k) => { s with cartRam := s.cartRam.write k v }
    | _ => s
  | .dmaTrigger => s
  | .vram => s
  | .oam => s
  | .unmapped => s
  | .audio => s
  | .display => s
  | .hole => s

/-- The state with bytes placed at an address and the ones after it. -/
def placeBytes (s : State) (a : Word) : List Byte → State
  | [] => s
  | v :: rest => placeBytes (placeByte s a v) (a + 1) rest

/-- PC can fetch three placed bytes. -/
def canPlaceAtPC (s : State) : Bool :=
  decide (s.pc.toNat ≤ 0xFFFD) && placeable s s.pc && placeable s (s.pc + 1) && placeable s (s.pc + 2)

/-- The state whose very next step fetches the bytes given: running, with the bytes where PC points, PC being moved
to the entry point `0x0100` when it points where no byte can be placed (log entry 12). -/
def placeAtPC (s : State) (bytes : List Byte) : State :=
  let running := { s with halted := false }
  let ready := if canPlaceAtPC running then running else { running with pc := 0x0100 }
  placeBytes ready ready.pc bytes

end Sys2Proof.Machine
end

