-- ==== Sys2Proof/Machine/StepLoop.lean ====
section
/-! DEFINITION. The phases of one step (spec/60_exceptions.md R420 to R423), over the execute phase given. -/

namespace Sys2Proof.Machine

/-- The start of a step: a pending EI takes effect when `EI_DELAY = 1` (R374, R420), and the cycle counter is reset
(R42). -/
def beginStep (s : State) : State :=
  { s with
    ime := if s.params.eiDelay && s.eiPending then true else s.ime
    eiPending := if s.params.eiDelay && s.eiPending then false else s.eiPending
    cycles := { instruction := 0, dma := 0, dispatch := 0 } }

/-- `pc` advanced by the instruction's size and its base cost charged, before it executes (R421). -/
def advance (s : State) (f : Fetched) : State :=
  { s with pc := s.pc + BitVec.ofNat 16 f.size, cycles := { s.cycles with instruction := f.cycles } }

/-- The halted idle: 4 cycles, and no fetch (R38, R420). -/
def haltedIdle (s : State) : State :=
  { s with cycles := { s.cycles with instruction := Config.haltCycles } }

/-- Phase 3: `IF <- IF | PERIPH.update(c)` with the instruction's cycles (R422). -/
def updatePeriph (s : State) : State := s.afterPeriph (s.periph.update s.cycles.instruction)

/-- Phases 3 and 4: the peripheral update, then the interrupt check (R420). -/
def finishStep (s : State) : Out := done (interruptCheck (updatePeriph s))

/-- One step with the execute phase `execute` (R420). A fatal condition ends it at once (R400). -/
def stepWith (execute : Instr → State → Out) (s : State) : Out :=
  let s0 := beginStep s
  if s0.halted then finishStep (haltedIdle s0)
  else
    match decodeAt s0 s0.pc with
    | .error e => .fault e
    | .ok f =>
      match execute f.instr (advance s0 f) with
      | .next t => finishStep t
      | .fault e => .fault e
      | .refused r => .refused r

/-- The step's return value: "instruction cycles + peripheral-triggered cycles (DMA) + interrupt dispatch cycles"
(R423), of the step that gave this state. -/
def State.stepCycles (s : State) : Nat := s.cycles.instruction + s.cycles.dma + s.cycles.dispatch

end Sys2Proof.Machine
end

