-- ==== Sys2Proof/Machine/Debug.lean ====
section
/-! DEFINITION. The read-only debug accessors (spec/60_exceptions.md R434). The accessors of the registers, F, PC
and SP are the fields of the state. -/

namespace Sys2Proof.Machine

/-- The memory dump of one address: what a bus read returns, and "no value" where it would be fatal (R434, D35). -/
def debugRead (s : State) (a : Word) : Option Byte :=
  match busRead s a with
  | .ok v => some v
  | .error _ => none

/-- The memory dump of `count` addresses from `a`. -/
def debugDump (s : State) (a : Word) (count : Nat) : List (Option Byte) :=
  (List.range count).map (fun k => debugRead s (a + BitVec.ofNat 16 k))

/-- `decode_at_pc`: "`decode(pc)` or its would-be fatal code" (R434, D35). -/
def debugDecodeAtPC (s : State) : Except Fault Fetched :=
  match decodeAt s s.pc with
  | .ok f =>
    match f.instr.undefinedByte with
    | some op => .error (.undefinedOpcode op)
    | none => .ok f
  | .error e => .error e

end Sys2Proof.Machine
end

