-- ==== Sys2Proof/Machine/Launch.lean ====
section
/-! DEFINITION. Launch, the block's one reset (spec/70_reset_and_hazards.md R450 to R456): the header checks and the
state they lead to. -/

namespace Sys2Proof.Machine

/-- What a launch is given (R9, R450). An image is a list of indices and bytes, in which a later entry wins and an
index not listed is `Memory.unlisted`. -/
structure LaunchInput where
  /-- The length of the ROM image in bytes. -/
  romLength : Nat
  /-- The bytes of the ROM image. -/
  rom : List Host.Cell
  /-- `INIT_WRAM`. -/
  wram : List Host.Cell
  /-- `INIT_HRAM`. -/
  hram : List Host.Cell
  /-- `INIT_CART_RAM`. -/
  cartRam : List Host.Cell
  /-- `RESET_REGS`: the register file. `launchState` masks the low nibble of F (log entry 20). -/
  regs : Regs
  /-- `RESET_REGS`: the stack pointer. -/
  sp : Word
  /-- `CHECKSUM_FORM`. -/
  checksumForm : Config.ChecksumForm
  /-- The parameters the steps read. -/
  params : Config.Params
  /-- The peripheral. -/
  periph : Periph
  deriving DecidableEq, Repr

/-- The bytes `0x134` to `0x14C` of the header, those the checksum is over (R453). -/
def checksumBytes (rom : Memory) : List Byte := (List.range 25).map (fun i => rom.read (0x134 + i))

/-- The header checksum by the form chosen (R453). -/
def headerChecksum (form : Config.ChecksumForm) (bytes : List Byte) : Byte :=
  match form with
  | .perByte => bytes.foldl (fun x b => x - b - 1) 0
  | .literal => 0 - bytes.foldl (fun x b => x + b) 0 - 1

/-- The cartridge types this block accepts (R454). -/
def acceptedType (t : Byte) : Bool := t == 0x01 || t == 0x02 || t == 0x03

/-- The first header check that fails, in the order of R450 (D36), or none. -/
def romDefect (form : Config.ChecksumForm) (length : Nat) (rom : Memory) : Option RomDefect :=
  if length < 0x150 then some .length
  else if (rom.read 0x148).toNat > 8 then some .romSizeCode
  else if length ≠ 0x8000 <<< (rom.read 0x148).toNat then some .length
  else if headerChecksum form (checksumBytes rom) ≠ rom.read 0x14D then some .checksum
  else if acceptedType (rom.read 0x147) = false then some .cartType
  else if (rom.read 0x149).toNat > 5 then some .ramSizeCode
  else none

/-- The state of an accepted launch (R49, R450). DESIGN CHOICE (log entry 20): R9 gives `RESET_REGS` no range, and a
low nibble of its F is masked to zero, so that the invariant of R32 holds from launch on. -/
def launchState (x : LaunchInput) (rom : Memory) : State :=
  { State.reset with
    regs := { x.regs with f := x.regs.f &&& 0xF0 }
    sp := x.sp
    rom := rom
    romSizeCode := Fin.ofNat 9 (rom.read 0x148).toNat
    cartRam := Memory.load (ramLengthOf (rom.read 0x149).toNat) x.cartRam
    ramSizeCode := Fin.ofNat 6 (rom.read 0x149).toNat
    wram := Memory.load 0x2000 x.wram
    hram := Memory.load 0x7F x.hram
    periph := x.periph
    params := x.params }

/-- `launch(ROM, INIT_WRAM, INIT_HRAM, INIT_CART_RAM)` (R450): `MALFORMED_ROM` with the first defect, or the state
the first step starts from. -/
def launch (x : LaunchInput) : Except Fault State :=
  let rom := Memory.load x.romLength x.rom
  match romDefect x.checksumForm x.romLength rom with
  | some d => .error (.malformedRom d)
  | none => .ok (launchState x rom)

/-- The launch of a ROM image with every other argument at its default (R9, R49): the default registers and
parameters, RAM of unlisted bytes, and the free peripheral. -/
def LaunchInput.ofRom (romLength : Nat) (rom : List Host.Cell) : LaunchInput :=
  { romLength := romLength
    rom := rom
    wram := []
    hram := []
    cartRam := []
    regs := Regs.reset
    sp := 0xFFFE
    checksumForm := .perByte
    params := Config.defaultParams
    periph := .free [] }

end Sys2Proof.Machine
end

