-- ==== Sys2Proof/Safety.lean ====
section
/-! DEFINITION. The terms claims are stated in: the invariant of the states, where a bus access succeeds, what an
instruction reads and stores, which bytes a store can change, runs that meet no fatal condition, and the end of a
program. -/

namespace Sys2Proof.Machine

/-! ## The invariant -/

/-- The low nibble of F is zero (spec/10_state.md R32). -/
abbrev State.FlagsClean (s : State) : Prop := s.regs.f &&& 0x0F = 0

/-- The peripheral's storage, where it has one, is in canonical form. -/
def Periph.Clean : Periph → Prop
  | .free _ => True
  | .reference cells => cells.wf

/-- Every storage is in canonical form and inside its size (R44, R45). -/
structure State.MemoryClean (s : State) : Prop where
  rom_wf : s.rom.wf
  rom_within : s.rom.within s.romLength
  cartRam_wf : s.cartRam.wf
  cartRam_within : s.cartRam.within s.ramLength
  wram_wf : s.wram.wf
  wram_within : s.wram.within 0x2000
  hram_wf : s.hram.wf
  hram_within : s.hram.within 0x7F
  periph_clean : s.periph.Clean

/-- With `EI_DELAY = 0` there is no pending EI (R41). -/
abbrev State.PendingClean (s : State) : Prop := s.params.eiDelay = false → s.eiPending = false

/-- The invariant of the machine: what R32, R41, R44 and R45 say of every state. -/
structure State.Inv (s : State) : Prop where
  flags : s.FlagsClean
  memory : s.MemoryClean
  pending : s.PendingClean

/-! ## Where a bus access succeeds -/

/-- A bus access to an address is not fatal (R64, R88). -/
abbrev State.Accessible (s : State) (a : Word) : Prop :=
  ¬ (0xFF4C ≤ a.toNat ∧ a.toNat ≤ 0xFF7F) ∧
  (0xA000 ≤ a.toNat → a.toNat ≤ 0xBFFF → s.mbc.ramEnable = true →
    s.numRamBanks ≠ 0 ∧ s.ramBank * 0x2000 + (a.toNat - 0xA000) < s.ramLength)

/-- A bus write of `v` to an address is not fatal: the access is not, and where it starts a DMA no read of a source
byte is (R90). -/
abbrev State.Writable (s : State) (a : Word) (v : Byte) : Prop :=
  s.Accessible a ∧ (a = 0xFF46 → ∀ i, i < 0xA0 → s.Accessible (ofBytes v 0 + BitVec.ofNat 16 i))

/-! ## What an instruction reads and stores -/

/-- The byte a bus read gives, and 0 where the read is fatal. -/
def State.byteAt (s : State) (a : Word) : Byte :=
  match busRead s a with
  | .ok v => v
  | .error _ => 0

/-- The byte an instruction that reads and rewrites the byte at HL stores there, for the byte `v` it read and the
carry flag `cy`. -/
def rewritten (cy : Bool) (v : Byte) : Instr → Option Byte
  | .incMHL => some (v + 1)
  | .decMHL => some (v - 1)
  | .rlcMHL => some (rotate8 .rlc v cy).1
  | .rrcMHL => some (rotate8 .rrc v cy).1
  | .rlMHL => some (rotate8 .rl v cy).1
  | .rrMHL => some (rotate8 .rr v cy).1
  | .slaMHL => some (rotate8 .sla v cy).1
  | .sraMHL => some (rotate8 .sra v cy).1
  | .swapMHL => some (rotate8 .swap v cy).1
  | .srlMHL => some (rotate8 .srl v cy).1
  | .res0MHL => some (v &&& ~~~(1#8 <<< 0))
  | .res1MHL => some (v &&& ~~~(1#8 <<< 1))
  | .res2MHL => some (v &&& ~~~(1#8 <<< 2))
  | .res3MHL => some (v &&& ~~~(1#8 <<< 3))
  | .res4MHL => some (v &&& ~~~(1#8 <<< 4))
  | .res5MHL => some (v &&& ~~~(1#8 <<< 5))
  | .res6MHL => some (v &&& ~~~(1#8 <<< 6))
  | .res7MHL => some (v &&& ~~~(1#8 <<< 7))
  | .set0MHL => some (v ||| (1#8 <<< 0))
  | .set1MHL => some (v ||| (1#8 <<< 1))
  | .set2MHL => some (v ||| (1#8 <<< 2))
  | .set3MHL => some (v ||| (1#8 <<< 3))
  | .set4MHL => some (v ||| (1#8 <<< 4))
  | .set5MHL => some (v ||| (1#8 <<< 5))
  | .set6MHL => some (v ||| (1#8 <<< 6))
  | .set7MHL => some (v ||| (1#8 <<< 7))
  | _ => none

/-- The two bytes `Push16(v)` stores, in its order (R230). -/
def State.pushed (s : State) (v : Word) : List (Word × Byte) := [(s.sp - 1, hiByte v), (s.sp - 2, loByte v)]

/-- The bytes an instruction stores, each with its address, in the order of the bus writes. -/
def State.stores (s : State) (i : Instr) : List (Word × Byte) :=
  match i with
  | .ldMHLB => [(s.regs.hl, s.regs.b)]
  | .ldMHLC => [(s.regs.hl, s.regs.c)]
  | .ldMHLD => [(s.regs.hl, s.regs.d)]
  | .ldMHLE => [(s.regs.hl, s.regs.e)]
  | .ldMHLH => [(s.regs.hl, s.regs.h)]
  | .ldMHLL => [(s.regs.hl, s.regs.l)]
  | .ldMHLA => [(s.regs.hl, s.regs.a)]
  | .ldMHLN n => [(s.regs.hl, n)]
  | .ldMBCA => [(s.regs.bc, s.regs.a)]
  | .ldMDEA => [(s.regs.de, s.regs.a)]
  | .ldMNNA nn => [(nn, s.regs.a)]
  | .ldhMNA n => [(ofBytes 0xFF n, s.regs.a)]
  | .ldMCA => [(ofBytes 0xFF s.regs.c, s.regs.a)]
  | .ldMHLIncA => [(s.regs.hl, s.regs.a)]
  | .ldMHLDecA => [(s.regs.hl, s.regs.a)]
  | .ldMNNSP nn => [(nn, loByte s.sp), (nn + 1, hiByte s.sp)]
  | .pushBC => s.pushed s.regs.bc
  | .pushDE => s.pushed s.regs.de
  | .pushHL => s.pushed s.regs.hl
  | .pushAF => s.pushed s.regs.af
  | .callNN _ => s.pushed s.pc
  | .callNZNN _ => if s.cond .nz then s.pushed s.pc else []
  | .callZNN _ => if s.cond .z then s.pushed s.pc else []
  | .callNCNN _ => if s.cond .nc then s.pushed s.pc else []
  | .callCNN _ => if s.cond .c then s.pushed s.pc else []
  | .rst00 => s.pushed s.pc
  | .rst08 => s.pushed s.pc
  | .rst10 => s.pushed s.pc
  | .rst18 => s.pushed s.pc
  | .rst20 => s.pushed s.pc
  | .rst28 => s.pushed s.pc
  | .rst30 => s.pushed s.pc
  | .rst38 => s.pushed s.pc
  | .prefixCB second =>
    match rewritten (s.flag .cy) (s.byteAt s.regs.hl) (decodeCB second) with
    | some w => [(s.regs.hl, w)]
    | none => []
  | i =>
    match rewritten (s.flag .cy) (s.byteAt s.regs.hl) i with
    | some w => [(s.regs.hl, w)]
    | none => []

/-- The data addresses an instruction reads, in order; its own bytes are not among them. -/
def State.loads (s : State) (i : Instr) : List Word :=
  match i with
  | .ldAMBC => [s.regs.bc]
  | .ldAMDE => [s.regs.de]
  | .ldAMNN nn => [nn]
  | .ldhAMN n => [ofBytes 0xFF n]
  | .ldAMC => [ofBytes 0xFF s.regs.c]
  | .popBC => [s.sp, s.sp + 1]
  | .popDE => [s.sp, s.sp + 1]
  | .popHL => [s.sp, s.sp + 1]
  | .popAF => [s.sp, s.sp + 1]
  | .ret => [s.sp, s.sp + 1]
  | .reti => [s.sp, s.sp + 1]
  | .retNZ => if s.cond .nz then [s.sp, s.sp + 1] else []
  | .retZ => if s.cond .z then [s.sp, s.sp + 1] else []
  | .retNC => if s.cond .nc then [s.sp, s.sp + 1] else []
  | .retC => if s.cond .c then [s.sp, s.sp + 1] else []
  | .ldAMHLInc => [s.regs.hl]
  | .ldAMHLDec => [s.regs.hl]
  | .ldBMHL => [s.regs.hl]
  | .ldCMHL => [s.regs.hl]
  | .ldDMHL => [s.regs.hl]
  | .ldEMHL => [s.regs.hl]
  | .ldHMHL => [s.regs.hl]
  | .ldLMHL => [s.regs.hl]
  | .ldAMHL => [s.regs.hl]
  | .addAMHL => [s.regs.hl]
  | .adcAMHL => [s.regs.hl]
  | .subMHL => [s.regs.hl]
  | .sbcAMHL => [s.regs.hl]
  | .andMHL => [s.regs.hl]
  | .xorMHL => [s.regs.hl]
  | .orMHL => [s.regs.hl]
  | .cpMHL => [s.regs.hl]
  | .incMHL => [s.regs.hl]
  | .decMHL => [s.regs.hl]
  | .rlcMHL => [s.regs.hl]
  | .rrcMHL => [s.regs.hl]
  | .rlMHL => [s.regs.hl]
  | .rrMHL => [s.regs.hl]
  | .slaMHL => [s.regs.hl]
  | .sraMHL => [s.regs.hl]
  | .swapMHL => [s.regs.hl]
  | .srlMHL => [s.regs.hl]
  | .bit0MHL => [s.regs.hl]
  | .bit1MHL => [s.regs.hl]
  | .bit2MHL => [s.regs.hl]
  | .bit3MHL => [s.regs.hl]
  | .bit4MHL => [s.regs.hl]
  | .bit5MHL => [s.regs.hl]
  | .bit6MHL => [s.regs.hl]
  | .bit7MHL => [s.regs.hl]
  | .res0MHL => [s.regs.hl]
  | .res1MHL => [s.regs.hl]
  | .res2MHL => [s.regs.hl]
  | .res3MHL => [s.regs.hl]
  | .res4MHL => [s.regs.hl]
  | .res5MHL => [s.regs.hl]
  | .res6MHL => [s.regs.hl]
  | .res7MHL => [s.regs.hl]
  | .set0MHL => [s.regs.hl]
  | .set1MHL => [s.regs.hl]
  | .set2MHL => [s.regs.hl]
  | .set3MHL => [s.regs.hl]
  | .set4MHL => [s.regs.hl]
  | .set5MHL => [s.regs.hl]
  | .set6MHL => [s.regs.hl]
  | .set7MHL => [s.regs.hl]
  | .prefixCB second => if fieldZ second = 6 then [s.regs.hl] else []
  | _ => []

/-- The bus writes of a list of addresses and bytes, in order. -/
def storeAll : State → List (Word × Byte) → Except Fault State
  | s, [] => .ok s
  | s, p :: rest =>
    match busWrite s p.1 p.2 with
    | .ok t => storeAll t rest
    | .error e => .error e

/-! ## Which reads a store can change -/

/-- The address belongs to the peripheral (R66, R70, R74, R75, R76). -/
abbrev periphAddress (a : Word) : Prop :=
  (0x8000 ≤ a.toNat ∧ a.toNat ≤ 0x9FFF) ∨ (0xFE00 ≤ a.toNat ∧ a.toNat ≤ 0xFE9F) ∨
  (0xFF10 ≤ a.toNat ∧ a.toNat ≤ 0xFF26) ∨ (0xFF30 ≤ a.toNat ∧ a.toNat ≤ 0xFF4B)

/-- The address is in no device and no storage (R63). -/
abbrev unmappedAddress (a : Word) : Prop :=
  (0xFEA0 ≤ a.toNat ∧ a.toNat ≤ 0xFF0E) ∨ (0xFF27 ≤ a.toNat ∧ a.toNat ≤ 0xFF2F)

/-- Two addresses name one stored byte: they are equal, or one is the echo of the other (R69). -/
abbrev sameByte (a b : Word) : Prop :=
  a = b ∨
  (0xE000 ≤ a.toNat ∧ a.toNat ≤ 0xFDFF ∧ b.toNat + 0x2000 = a.toNat) ∨
  (0xE000 ≤ b.toNat ∧ b.toNat ≤ 0xFDFF ∧ a.toNat + 0x2000 = b.toNat)

/-- A bus write at `w` can change what a read of `r` gives (R103): a bank register changes the two banked windows, a
peripheral address every peripheral address and IF, an unmapped address nothing, and any other address its own
byte. -/
abbrev canChange (w r : Word) : Prop :=
  if w.toNat ≤ 0x7FFF then (0x4000 ≤ r.toNat ∧ r.toNat ≤ 0x7FFF) ∨ (0xA000 ≤ r.toNat ∧ r.toNat ≤ 0xBFFF)
  else if periphAddress w then periphAddress r ∨ r = 0xFF0F
  else if unmappedAddress w then False
  else sameByte w r

/-! ## Cycles -/

/-- The extra cycles of a conditional transfer that is taken: the difference of the two figures of R470. -/
def State.takenExtra (s : State) (i : Instr) : Nat :=
  match i with
  | .jrNZRel _ => if s.cond .nz then 4 else 0
  | .jrZRel _ => if s.cond .z then 4 else 0
  | .jrNCRel _ => if s.cond .nc then 4 else 0
  | .jrCRel _ => if s.cond .c then 4 else 0
  | .jpNZNN _ => if s.cond .nz then 4 else 0
  | .jpZNN _ => if s.cond .z then 4 else 0
  | .jpNCNN _ => if s.cond .nc then 4 else 0
  | .jpCNN _ => if s.cond .c then 4 else 0
  | .callNZNN _ => if s.cond .nz then 12 else 0
  | .callZNN _ => if s.cond .z then 12 else 0
  | .callNCNN _ => if s.cond .nc then 12 else 0
  | .callCNN _ => if s.cond .c then 12 else 0
  | .retNZ => if s.cond .nz then 12 else 0
  | .retZ => if s.cond .z then 12 else 0
  | .retNC => if s.cond .nc then 12 else 0
  | .retC => if s.cond .c then 12 else 0
  | _ => 0

/-- How many of a list of stores start a DMA: those to `0xFF46` (R76, R92). -/
def dmaStarts (stores : List (Word × Byte)) : Nat := stores.countP (fun p => p.1 == 0xFF46)

/-- The end of a step from this state takes an interrupt: IME is set, and a source is set in IE and in IF with the
requests of the peripheral's update (R412, R420). -/
abbrev State.TakesInterrupt (s : State) : Prop :=
  s.ime = true ∧ ∃ i : IntSource, s.ieReg.getLsbD i.bit = true ∧
    (s.ifReg ||| (s.periph.update s.cycles.instruction).2.setWidth 8).getLsbD i.bit = true

/-! ## What a store leaves where -/

/-- A bus write of any byte at the address is stored, and read back (R68, R69, R71 to R73, R88). -/
abbrev State.StoresAt (s : State) (a : Word) : Prop :=
  (0xC000 ≤ a.toNat ∧ a.toNat ≤ 0xFDFF) ∨ a = 0xFF0F ∨ 0xFF80 ≤ a.toNat ∨
  (0xA000 ≤ a.toNat ∧ a.toNat ≤ 0xBFFF ∧ s.mbc.ramEnable = true ∧ s.Accessible a)

/-! ## Forms of the statements about one instruction -/

/-- The instruction loads `dst` from the address, and stops where the bus read does. -/
abbrev LoadsByte (i : Instr) (s : State) (dst : R8) (a : Word) : Prop :=
  (∀ v, busRead s a = .ok v → exec i s = .next { s with regs := s.regs.set dst v }) ∧
  (∀ e, busRead s a = .error e → exec i s = .fault e)

/-- The instruction stores `v` at the address and then changes the CPU by `after`, and stops where the bus write
does. -/
abbrev StoresByte (i : Instr) (s : State) (a : Word) (v : Byte) (after : State → State) : Prop :=
  (∀ t, busWrite s a v = .ok t → exec i s = .next (after t)) ∧
  (∀ e, busWrite s a v = .error e → exec i s = .fault e)

/-- Every form of an accumulator operation, with the second operand `b`, answers the state `t` (R240). -/
abbrev AluGives (op : AluOp) (b : Byte) (s t : State) : Prop :=
  exec (.aluN op b) s = .next t ∧
  (∀ r, s.regs.get r = b → exec (.aluSrc op (.reg r)) s = .next t) ∧
  (busRead s (ofBytes s.regs.h s.regs.l) = .ok b → exec (.aluSrc op .atHL) s = .next t)

/-- The instruction reads the byte `v` at HL, stores `new v` there and leaves `flags v` in F, and stops where one of
the two bus accesses does. -/
abbrev RewritesByte (i : Instr) (s : State) (new flags : Byte → Byte) : Prop :=
  (∀ v t, busRead s (ofBytes s.regs.h s.regs.l) = .ok v → busWrite s (ofBytes s.regs.h s.regs.l) (new v) = .ok t →
    exec i s = .next { t with regs := { t.regs with f := flags v } }) ∧
  (∀ e, busRead s (ofBytes s.regs.h s.regs.l) = .error e → exec i s = .fault e) ∧
  (∀ v e, busRead s (ofBytes s.regs.h s.regs.l) = .ok v → busWrite s (ofBytes s.regs.h s.regs.l) (new v) = .error e →
    exec i s = .fault e)

/-- The result of a rotate, shift or SWAP of the number `v` with the carry `c`, in arithmetic (R305 to R312). -/
def rotated : RotOp → Nat → Nat → Nat
  | .rlc, v, _ => 2 * v % 256 + v / 128
  | .rrc, v, _ => v / 2 + 128 * (v % 2)
  | .rl, v, c => 2 * v % 256 + c
  | .rr, v, c => v / 2 + 128 * c
  | .sla, v, _ => 2 * v % 256
  | .sra, v, _ => v / 2 + 128 * (v / 128)
  | .swap, v, _ => 16 * (v % 16) + v / 16
  | .srl, v, _ => v / 2

/-- The bit a rotate or shift moves out of the number `v`; SWAP moves none (R305 to R312). -/
def shiftedOut : RotOp → Nat → Bool
  | .rlc, v => decide (128 ≤ v)
  | .rrc, v => decide (v % 2 = 1)
  | .rl, v => decide (128 ≤ v)
  | .rr, v => decide (v % 2 = 1)
  | .sla, v => decide (128 ≤ v)
  | .sra, v => decide (v % 2 = 1)
  | .swap, _ => false
  | .srl, v => decide (v % 2 = 1)

/-- A rotate, shift or SWAP of the `0xCB` page: its bytes, its register form and its `(HL)` form. -/
abbrev RotatesOperand (op : RotOp) (s : State) : Prop :=
  let new : Byte → Byte := fun v => BitVec.ofNat 8 (rotated op v.toNat (getFlag s.regs.f .cy).toNat)
  let flags : Byte → Byte := fun v => withFlags s.regs.f (decide (new v = 0)) false false (shiftedOut op v.toNat)
  (∀ r : R8, decode [0xCB, opByte 0 op.index r.index] = .ok (.rotSrc op (.reg r)) 2 8 ∧
    exec (.rotSrc op (.reg r)) s =
      .next { s with regs := { s.regs.set r (new (s.regs.get r)) with f := flags (s.regs.get r) } }) ∧
  decode [0xCB, opByte 0 op.index 6] = .ok (.rotSrc op .atHL) 2 16 ∧ RewritesByte (.rotSrc op .atHL) s new flags

/-- The instruction with these bytes is one whose row of the table of R48 leaves every flag unchanged. -/
def leavesFlags : List Byte → Bool
  | [] => true
  | op :: rest =>
    if op = 0xCB then decide (2 ≤ fieldX (rest.headD 0))
    else if fieldX op = 0 then
      fieldZ op = 0 || fieldZ op = 2 || fieldZ op = 3 || fieldZ op = 6 || (fieldZ op = 1 && fieldQ op = 0)
    else if fieldX op = 1 then true
    else if fieldX op = 2 then false
    else decide (fieldZ op ≠ 6) && op != 0xE8 && op != 0xF8 && op != 0xF1

/-- The two decimal digits of a number below 100, one in each nibble. -/
def bcd (x : Nat) : Byte := BitVec.ofNat 8 (16 * (x / 10) + x % 10)

/-! ## Runs -/

/-- The state after `n` steps, when none of them stops (R423: "the only external control is how many steps the
caller requests"). -/
def runs (n : Nat) (s t : State) : Prop := Sys2Proof.core.run n s = .next t

/-- `n` steps from a state meet no fatal condition. -/
def Safe (n : Nat) (s : State) : Prop := ∃ t, runs n s t

/-- The end of a program (spec/92_eei_decisions.md D34): halted with IME clear and no EI pending. -/
structure State.Ended (s : State) : Prop where
  halted : s.halted = true
  ime : s.ime = false
  noPending : (s.params.eiDelay && s.eiPending) = false

end Sys2Proof.Machine
end

