-- ==== Sys2Proof/Certificates/Slice0/Obligations.lean ====
section
/-! DEFINITION. The statements for the provers: one proposition each, listed in OBLIGATIONS.json. Each says in its
docstring which rules of spec/ it states, and what in it is a choice of the spec or of the model. -/

open Sys2Proof Sys2Proof.Machine

/-- Register pairs are views of two bytes; F holds Z, N, H, CY in bits 7 to 4. R31 and R33: pairs as views, and the bits
of F. The clause about the conditions is R127, which the spec derives (R34 says the same). -/
def Obligations.RegisterViewsAndFlagBits : Prop :=
  (∀ (g : Regs) (w r : R8) (v : Byte), (g.set w v).get r = (if r = w then v else g.get r) ∧ (g.set w v).f = g.f) ∧
  (∀ g : Regs, g.get .b = g.b ∧ g.get .c = g.c ∧ g.get .d = g.d ∧ g.get .e = g.e ∧ g.get .h = g.h ∧ g.get .l = g.l ∧
    g.get .a = g.a) ∧
  (∀ (s : State) (r : R8) (v : Byte), s.setReg r v = { s with regs := s.regs.set r v }) ∧
  (∀ s : State, s.getRp2 .af = ofBytes s.regs.a s.regs.f ∧ s.getRp2 .bc = ofBytes s.regs.b s.regs.c ∧
    s.getRp2 .de = ofBytes s.regs.d s.regs.e ∧ s.getRp2 .hl = ofBytes s.regs.h s.regs.l) ∧
  (∀ s : State, s.getRp .bc = ofBytes s.regs.b s.regs.c ∧ s.getRp .de = ofBytes s.regs.d s.regs.e ∧
    s.getRp .hl = ofBytes s.regs.h s.regs.l ∧ s.getRp .sp = s.sp) ∧
  (∀ (s : State) (hi lo : Byte),
    s.setRp .bc (ofBytes hi lo) = { s with regs := { s.regs with b := hi, c := lo } } ∧
    s.setRp .de (ofBytes hi lo) = { s with regs := { s.regs with d := hi, e := lo } } ∧
    s.setRp .hl (ofBytes hi lo) = { s with regs := { s.regs with h := hi, l := lo } } ∧
    s.setRp .sp (ofBytes hi lo) = { s with sp := ofBytes hi lo }) ∧
  (∀ hi lo : Byte, hiByte (ofBytes hi lo) = hi ∧ loByte (ofBytes hi lo) = lo ∧
    (ofBytes hi lo).toNat = 256 * hi.toNat + lo.toNat) ∧
  (∀ f : Byte, getFlag f .z = f.getLsbD 7 ∧ getFlag f .n = f.getLsbD 6 ∧ getFlag f .h = f.getLsbD 5 ∧
    getFlag f .cy = f.getLsbD 4) ∧
  (∀ (f : Byte) (g k : Flag) (v : Bool), getFlag (setFlag f g v) k = (if k = g then v else getFlag f k) ∧
    setFlag f g v &&& 0x0F = f &&& 0x0F) ∧
  (∀ (f : Byte) (z n h cy : Bool), getFlag (withFlags f z n h cy) .z = z ∧ getFlag (withFlags f z n h cy) .n = n ∧
    getFlag (withFlags f z n h cy) .h = h ∧ getFlag (withFlags f z n h cy) .cy = cy) ∧
  (∀ s : State, s.cond .nz = !s.regs.f.getLsbD 7 ∧ s.cond .z = s.regs.f.getLsbD 7 ∧
    s.cond .nc = !s.regs.f.getLsbD 4 ∧ s.cond .c = s.regs.f.getLsbD 4)

/-- LD r,r', LD r,n, LD rr,nn and LD SP,HL complete with the register written and nothing else. R201, R202, R220, R222. -/
def Obligations.RegisterAndImmediateLoads : Prop :=
  ∀ (dst src : R8) (rr : Rp) (n lo hi : Byte) (s : State),
    decode [opByte 1 dst.index src.index] = .ok (.ldRR dst src) 1 4 ∧
    exec (.ldRR dst src) s = .next { s with regs := s.regs.set dst (s.regs.get src) } ∧
    decode [opByte 0 dst.index 6, n] = .ok (.ldSrcN (.reg dst) n) 2 8 ∧
    exec (.ldSrcN (.reg dst) n) s = .next { s with regs := s.regs.set dst n } ∧
    decode [opByte 0 (2 * rr.index) 1, lo, hi] = .ok (.ldRpNN rr (ofBytes hi lo)) 3 12 ∧
    exec (.ldRpNN .bc (ofBytes hi lo)) s = .next { s with regs := { s.regs with b := hi, c := lo } } ∧
    exec (.ldRpNN .de (ofBytes hi lo)) s = .next { s with regs := { s.regs with d := hi, e := lo } } ∧
    exec (.ldRpNN .hl (ofBytes hi lo)) s = .next { s with regs := { s.regs with h := hi, l := lo } } ∧
    exec (.ldRpNN .sp (ofBytes hi lo)) s = .next { s with sp := ofBytes hi lo } ∧
    decode [0xF9] = .ok .ldSPHL 1 8 ∧
    exec .ldSPHL s = .next { s with sp := ofBytes s.regs.h s.regs.l }

/-- LD r,(HL), LD A,(BC), LD A,(DE), LD A,(nn), LDH A,(n) and LD A,(C) load the byte a bus read gives. R203, R206, R207,
R210, R212, R214. -/
def Obligations.LoadsFromMemory : Prop :=
  ∀ (dst : R8) (n lo hi : Byte) (s : State),
    decode [opByte 1 dst.index 6] = .ok (.ldRMHL dst) 1 8 ∧
    LoadsByte (.ldRMHL dst) s dst (ofBytes s.regs.h s.regs.l) ∧
    decode [0x0A] = .ok .ldAMBC 1 8 ∧ LoadsByte .ldAMBC s .a (ofBytes s.regs.b s.regs.c) ∧
    decode [0x1A] = .ok .ldAMDE 1 8 ∧ LoadsByte .ldAMDE s .a (ofBytes s.regs.d s.regs.e) ∧
    decode [0xFA, lo, hi] = .ok (.ldAMNN (ofBytes hi lo)) 3 16 ∧
    LoadsByte (.ldAMNN (ofBytes hi lo)) s .a (ofBytes hi lo) ∧
    decode [0xF0, n] = .ok (.ldhAMN n) 2 12 ∧ LoadsByte (.ldhAMN n) s .a (0xFF00 + n.setWidth 16) ∧
    decode [0xF2] = .ok .ldAMC 1 8 ∧ LoadsByte .ldAMC s .a (0xFF00 + s.regs.c.setWidth 16)

/-- The nine forms of one-byte store write the byte by one bus write at the address the rule computes. R204, R205, R208,
R209, R211, R213, R215, R218, R219. -/
def Obligations.StoresToMemory : Prop :=
  ∀ (src : R8) (n lo hi : Byte) (s : State),
    let hl := ofBytes s.regs.h s.regs.l
    decode [opByte 1 6 src.index] = .ok (.ldMHLR src) 1 8 ∧ StoresByte (.ldMHLR src) s hl (s.regs.get src) id ∧
    decode [0x36, n] = .ok (.ldSrcN .atHL n) 2 12 ∧ StoresByte (.ldSrcN .atHL n) s hl n id ∧
    decode [0x02] = .ok .ldMBCA 1 8 ∧ StoresByte .ldMBCA s (ofBytes s.regs.b s.regs.c) s.regs.a id ∧
    decode [0x12] = .ok .ldMDEA 1 8 ∧ StoresByte .ldMDEA s (ofBytes s.regs.d s.regs.e) s.regs.a id ∧
    decode [0xEA, lo, hi] = .ok (.ldMNNA (ofBytes hi lo)) 3 16 ∧
    StoresByte (.ldMNNA (ofBytes hi lo)) s (ofBytes hi lo) s.regs.a id ∧
    decode [0xE0, n] = .ok (.ldhMNA n) 2 12 ∧ StoresByte (.ldhMNA n) s (0xFF00 + n.setWidth 16) s.regs.a id ∧
    decode [0xE2] = .ok .ldMCA 1 8 ∧ StoresByte .ldMCA s (0xFF00 + s.regs.c.setWidth 16) s.regs.a id ∧
    decode [0x22] = .ok .ldMHLIncA 1 8 ∧ StoresByte .ldMHLIncA s hl s.regs.a
      (fun t => { t with regs := { t.regs with h := hiByte (hl + 1), l := loByte (hl + 1) } }) ∧
    decode [0x32] = .ok .ldMHLDecA 1 8 ∧ StoresByte .ldMHLDecA s hl s.regs.a
      (fun t => { t with regs := { t.regs with h := hiByte (hl - 1), l := loByte (hl - 1) } })

/-- LD A,(HL+), LD A,(HL-) and LD (nn),SP complete with the accesses in their order and addresses modulo 65536. The wrap
is the spec's decision D4, the byte order D1 and the access order D31 (R216, R217, R221). -/
def Obligations.SteppedLoadsAndStoreOfSP : Prop :=
  ∀ (lo hi : Byte) (s : State),
    let hl := ofBytes s.regs.h s.regs.l
    let nn := ofBytes hi lo
    decode [0x2A] = .ok .ldAMHLInc 1 8 ∧ decode [0x3A] = .ok .ldAMHLDec 1 8 ∧
    (∀ v, busRead s hl = .ok v →
      exec .ldAMHLInc s = .next { s with regs := { s.regs with a := v, h := hiByte (hl + 1), l := loByte (hl + 1) } } ∧
      exec .ldAMHLDec s = .next { s with regs := { s.regs with a := v, h := hiByte (hl - 1), l := loByte (hl - 1) } }) ∧
    (∀ e, busRead s hl = .error e → exec .ldAMHLInc s = .fault e ∧ exec .ldAMHLDec s = .fault e) ∧
    decode [0x08, lo, hi] = .ok (.ldMNNSP nn) 3 20 ∧
    (∀ t u, busWrite s nn (loByte s.sp) = .ok t → busWrite t (nn + 1) (hiByte s.sp) = .ok u →
      exec (.ldMNNSP nn) s = .next u) ∧
    (∀ e, busWrite s nn (loByte s.sp) = .error e → exec (.ldMNNSP nn) s = .fault e) ∧
    (∀ t e, busWrite s nn (loByte s.sp) = .ok t → busWrite t (nn + 1) (hiByte s.sp) = .error e →
      exec (.ldMNNSP nn) s = .fault e)

/-- Push16 writes the high byte first and lowers SP by 2; Pop16 reads the low byte first and raises SP by 2. R230 and
R231; the wrap of SP is the spec's decision D4. -/
def Obligations.PushAndPopOfAWord : Prop :=
  ∀ (s : State) (v : Word),
    (∀ t u, busWrite { s with sp := s.sp - 1 } (s.sp - 1) (hiByte v) = .ok t →
      busWrite { t with sp := t.sp - 1 } (t.sp - 1) (loByte v) = .ok u → push16 s v = .ok u ∧ u.sp = s.sp - 2) ∧
    (∀ e, busWrite { s with sp := s.sp - 1 } (s.sp - 1) (hiByte v) = .error e → push16 s v = .error e) ∧
    (∀ t e, busWrite { s with sp := s.sp - 1 } (s.sp - 1) (hiByte v) = .ok t →
      busWrite { t with sp := t.sp - 1 } (t.sp - 1) (loByte v) = .error e → push16 s v = .error e) ∧
    (∀ lo hi, busRead s s.sp = .ok lo → busRead s (s.sp + 1) = .ok hi →
      pop16 s = .ok ({ s with sp := s.sp + 2 }, ofBytes hi lo)) ∧
    (∀ e, busRead s s.sp = .error e → pop16 s = .error e) ∧
    (∀ lo e, busRead s s.sp = .ok lo → busRead s (s.sp + 1) = .error e → pop16 s = .error e)

/-- PUSH rr pushes the pair; CALL, taken CALL cc and RST push the return address and go to the target. R232, R346, R347,
R350, over Push16 (PushAndPopOfAWord). -/
def Obligations.PushesAndCalls : Prop :=
  ∀ (rr : Rp2) (cc : Cond) (y : Ix8) (lo hi : Byte) (s : State),
    let nn := ofBytes hi lo
    decode [opByte 3 (2 * rr.index) 5] = .ok (.pushRp rr) 1 16 ∧
    decode [0xCD, lo, hi] = .ok (.callNN nn) 3 24 ∧
    decode [opByte 3 cc.index 4, lo, hi] = .ok (.callCond cc nn) 3 12 ∧
    decode [opByte 3 y.index 7] = .ok (.rstY y) 1 16 ∧
    (∀ t, push16 s (s.getRp2 rr) = .ok t → exec (.pushRp rr) s = .next t) ∧
    (∀ e, push16 s (s.getRp2 rr) = .error e → exec (.pushRp rr) s = .fault e) ∧
    (∀ t, push16 s s.pc = .ok t →
      exec (.callNN nn) s = .next { t with pc := nn } ∧
      exec (.rstY y) s = .next { t with pc := BitVec.ofNat 16 (8 * y.index) } ∧
      (s.cond cc = true → exec (.callCond cc nn) s =
        .next { t with pc := nn, cycles := { t.cycles with instruction := t.cycles.instruction + 12 } })) ∧
    (∀ e, push16 s s.pc = .error e →
      exec (.callNN nn) s = .fault e ∧ exec (.rstY y) s = .fault e ∧
      (s.cond cc = true → exec (.callCond cc nn) s = .fault e)) ∧
    (s.cond cc = false → exec (.callCond cc nn) s = .next s)

/-- POP rr loads the pair from the two stack bytes; POP AF masks the low nibble of F to zero. R233; the wrap of SP is
the spec's decision D4. -/
def Obligations.PopOfAPair : Prop :=
  ∀ (rr : Rp2) (s : State),
    decode [opByte 3 (2 * rr.index) 1] = .ok (.popRp rr) 1 12 ∧
    (∀ lo hi, busRead s s.sp = .ok lo → busRead s (s.sp + 1) = .ok hi →
      exec (.popRp .bc) s = .next { s with sp := s.sp + 2, regs := { s.regs with b := hi, c := lo } } ∧
      exec (.popRp .de) s = .next { s with sp := s.sp + 2, regs := { s.regs with d := hi, e := lo } } ∧
      exec (.popRp .hl) s = .next { s with sp := s.sp + 2, regs := { s.regs with h := hi, l := lo } } ∧
      exec (.popRp .af) s = .next { s with sp := s.sp + 2, regs := { s.regs with a := hi, f := lo &&& 0xF0 } }) ∧
    (∀ e, busRead s s.sp = .error e → exec (.popRp rr) s = .fault e) ∧
    (∀ lo e, busRead s s.sp = .ok lo → busRead s (s.sp + 1) = .error e → exec (.popRp rr) s = .fault e)

/-- RET, taken RET cc and RETI pop PC; RETI also clears IME. R348, R349, R352, over Pop16 (PushAndPopOfAWord). -/
def Obligations.Returns : Prop :=
  ∀ (cc : Cond) (s : State),
    decode [0xC9] = .ok .ret 1 16 ∧ decode [0xD9] = .ok .reti 1 16 ∧
    decode [opByte 3 cc.index 0] = .ok (.retCond cc) 1 8 ∧
    (∀ t v, pop16 s = .ok (t, v) →
      exec .ret s = .next { t with pc := v } ∧ exec .reti s = .next { t with pc := v, ime := false } ∧
      (s.cond cc = true → exec (.retCond cc) s =
        .next { t with pc := v, cycles := { t.cycles with instruction := t.cycles.instruction + 12 } })) ∧
    (∀ e, pop16 s = .error e → exec .ret s = .fault e ∧ exec .reti s = .fault e ∧
      (s.cond cc = true → exec (.retCond cc) s = .fault e)) ∧
    (s.cond cc = false → exec (.retCond cc) s = .next s)

/-- PUSH then POP of any pair restores every register and SP, wherever the stack bytes are stored. The law R233 derives
from R230, R231 and R32. -/
def Obligations.PushThenPopRestores : Prop :=
  ∀ (rr : Rp2) (s : State), s.FlagsClean → s.StoresAt (s.sp - 1) → s.StoresAt (s.sp - 2) →
    ∃ t u, exec (.pushRp rr) s = .next t ∧ exec (.popRp rr) t = .next u ∧
      u.regs = s.regs ∧ u.sp = s.sp ∧ u.pc = s.pc

/-- The eight accumulator operations take their operand from a register, from (HL) or from an immediate. R240. -/
def Obligations.AluOperandForms : Prop :=
  ∀ (op : AluOp) (src : Src8) (r : R8) (n : Byte) (s : State),
    decode [opByte 2 op.index src.index] = .ok (.aluSrc op src) 1 (if src = .atHL then 8 else 4) ∧
    decode [opByte 3 op.index 6, n] = .ok (.aluN op n) 2 8 ∧
    exec (.aluSrc op (.reg r)) s = exec (.aluN op (s.regs.get r)) s ∧
    (∀ v, busRead s (ofBytes s.regs.h s.regs.l) = .ok v → exec (.aluSrc op .atHL) s = exec (.aluN op v) s) ∧
    (∀ e, busRead s (ofBytes s.regs.h s.regs.l) = .error e → exec (.aluSrc op .atHL) s = .fault e)

/-- ADD and ADC complete in every form with the sum modulo 256 in A and Z, N, H, CY as the rules give. R241, R242. -/
def Obligations.AdditionToA : Prop :=
  ∀ (b : Byte) (s : State),
    let a := s.regs.a.toNat
    let c := (getFlag s.regs.f .cy).toNat
    AluGives .add b s { s with regs := { s.regs with
      a := BitVec.ofNat 8 (a + b.toNat)
      f := withFlags s.regs.f (decide ((a + b.toNat) % 256 = 0)) false (decide (a % 16 + b.toNat % 16 > 0xF))
        (decide (a + b.toNat > 0xFF)) } } ∧
    AluGives .adc b s { s with regs := { s.regs with
      a := BitVec.ofNat 8 (a + b.toNat + c)
      f := withFlags s.regs.f (decide ((a + b.toNat + c) % 256 = 0)) false (decide (a % 16 + b.toNat % 16 + c > 0xF))
        (decide (a + b.toNat + c > 0xFF)) } }

/-- SUB, SBC and CP complete in every form with the flags the rules give; CP leaves A. R243, R244, R248. -/
def Obligations.SubtractionFromA : Prop :=
  ∀ (b : Byte) (s : State),
    let a := s.regs.a.toNat
    let c := (getFlag s.regs.f .cy).toNat
    let subFlags := withFlags s.regs.f (decide (((a : Int) - b.toNat) % 256 = 0)) true
      (decide (a % 16 < b.toNat % 16)) (decide (a < b.toNat))
    AluGives .sub b s { s with regs := { s.regs with a := BitVec.ofInt 8 ((a : Int) - b.toNat), f := subFlags } } ∧
    AluGives .sbc b s { s with regs := { s.regs with
      a := BitVec.ofInt 8 ((a : Int) - b.toNat - c)
      f := withFlags s.regs.f (decide (((a : Int) - b.toNat - c) % 256 = 0)) true
        (decide (a % 16 < b.toNat % 16 + c)) (decide (a < b.toNat + c)) } } ∧
    AluGives .cp b s { s with regs := { s.regs with f := subFlags } }

/-- AND, XOR and OR complete in every form with the result in A, Z its zero test, N and CY 0, H 1 only for AND. R245,
R246, R247. -/
def Obligations.LogicOnA : Prop :=
  ∀ (b : Byte) (s : State),
    AluGives .and b s { s with regs := { s.regs with
      a := s.regs.a &&& b, f := withFlags s.regs.f (decide (s.regs.a &&& b = 0)) false true false } } ∧
    AluGives .xor b s { s with regs := { s.regs with
      a := s.regs.a ^^^ b, f := withFlags s.regs.f (decide (s.regs.a ^^^ b = 0)) false false false } } ∧
    AluGives .or b s { s with regs := { s.regs with
      a := s.regs.a ||| b, f := withFlags s.regs.f (decide (s.regs.a ||| b = 0)) false false false } }

/-- INC r and INC (HL) complete with the byte plus 1, Z, N=0, H from a low nibble of 0xF, CY unchanged. R249 and R250;
the Z flag is the spec's own inference ("Z is the zero test of the result [derived: ...]"). -/
def Obligations.IncrementOfAByte : Prop :=
  ∀ (r : R8) (s : State),
    let flags : Byte → Byte := fun v =>
      withFlags s.regs.f (decide (v + 1 = 0)) false (decide (v.toNat % 16 = 15)) (getFlag s.regs.f .cy)
    decode [opByte 0 r.index 4] = .ok (.incSrc (.reg r)) 1 4 ∧
    exec (.incSrc (.reg r)) s =
      .next { s with regs := { s.regs.set r (s.regs.get r + 1) with f := flags (s.regs.get r) } } ∧
    decode [0x34] = .ok (.incSrc .atHL) 1 12 ∧
    RewritesByte (.incSrc .atHL) s (fun v => v + 1) flags

/-- DEC r and DEC (HL) complete with the byte minus 1, Z, N=1, H from a low nibble of 0, CY unchanged. R251, R252. -/
def Obligations.DecrementOfAByte : Prop :=
  ∀ (r : R8) (s : State),
    let flags : Byte → Byte := fun v =>
      withFlags s.regs.f (decide (v - 1 = 0)) true (decide (v.toNat % 16 = 0)) (getFlag s.regs.f .cy)
    decode [opByte 0 r.index 5] = .ok (.decSrc (.reg r)) 1 4 ∧
    exec (.decSrc (.reg r)) s =
      .next { s with regs := { s.regs.set r (s.regs.get r - 1) with f := flags (s.regs.get r) } } ∧
    decode [0x35] = .ok (.decSrc .atHL) 1 12 ∧
    RewritesByte (.decSrc .atHL) s (fun v => v - 1) flags

/-- INC then DEC, and DEC then INC, of any register restore it and never change CY. R253, a law the spec derives from
R249 and R251. -/
def Obligations.IncrementAndDecrementCancel : Prop :=
  ∀ (r : R8) (s : State),
    (∃ t u, exec (.incSrc (.reg r)) s = .next t ∧ exec (.decSrc (.reg r)) t = .next u ∧
      (∀ q, u.regs.get q = s.regs.get q) ∧ getFlag u.regs.f .cy = getFlag s.regs.f .cy) ∧
    (∃ t u, exec (.decSrc (.reg r)) s = .next t ∧ exec (.incSrc (.reg r)) t = .next u ∧
      (∀ q, u.regs.get q = s.regs.get q) ∧ getFlag u.regs.f .cy = getFlag s.regs.f .cy)

/-- DAA completes with the adjusted A of the pseudocode, N unchanged, H cleared, CY never cleared. R254, the spec's
decision D33. -/
def Obligations.DecimalAdjust : Prop :=
  ∀ s : State,
    let v := s.regs.a.toNat
    let n := getFlag s.regs.f .n
    let h := getFlag s.regs.f .h
    let c := getFlag s.regs.f .cy
    let high := c || decide (v > 0x99)
    let added := v + (if high then 0x60 else 0) + (if h || decide (v % 16 > 9) then 0x06 else 0)
    let taken : Int := (v : Int) - (if c then 0x60 else 0) - (if h then 0x06 else 0)
    decode [0x27] = .ok .daa 1 4 ∧
    (n = false → exec .daa s = .next { s with regs := { s.regs with
      a := BitVec.ofNat 8 added, f := withFlags s.regs.f (decide (added % 256 = 0)) false false high } }) ∧
    (n = true → exec .daa s = .next { s with regs := { s.regs with
      a := BitVec.ofInt 8 taken, f := withFlags s.regs.f (decide (taken % 256 = 0)) true false c } })

/-- ADD then DAA adds, and SUB then DAA subtracts, two numbers below 100 held as two decimal digits. What R254 is for
("decimal adjust after a BCD addition or subtraction"), a consequence of R241, R243 and R254. -/
def Obligations.DecimalAdjustGivesDecimalArithmetic : Prop :=
  ∀ (x y : Nat) (s : State), x < 100 → y < 100 → s.regs.a = bcd x →
    (∃ t u, exec (.aluN .add (bcd y)) s = .next t ∧ exec .daa t = .next u ∧
      u.regs.a = bcd ((x + y) % 100) ∧ getFlag u.regs.f .cy = decide (100 ≤ x + y)) ∧
    (∃ t u, exec (.aluN .sub (bcd y)) s = .next t ∧ exec .daa t = .next u ∧
      u.regs.a = bcd ((100 + x - y) % 100) ∧ getFlag u.regs.f .cy = decide (x < y))

/-- CPL, SCF and CCF complete with A complemented or CY set or complemented, and the other flags as stated. R255, R256,
R257, the spec's decision D33. -/
def Obligations.ComplementAndCarryFlag : Prop :=
  ∀ s : State,
    let z := getFlag s.regs.f .z
    let c := getFlag s.regs.f .cy
    decode [0x2F] = .ok .cpl 1 4 ∧ decode [0x37] = .ok .scf 1 4 ∧ decode [0x3F] = .ok .ccf 1 4 ∧
    exec .cpl s = .next { s with regs := { s.regs with
      a := BitVec.ofNat 8 (255 - s.regs.a.toNat), f := withFlags s.regs.f z true true c } } ∧
    exec .scf s = .next { s with regs := { s.regs with f := withFlags s.regs.f z false false true } } ∧
    exec .ccf s = .next { s with regs := { s.regs with f := withFlags s.regs.f z false false (!c) } }

/-- INC rr and DEC rr step a pair without flags; ADD SP,e and LD HL,SP+e add a signed byte with its flags. R280, R281
(wrap: decision D4), R283, R284 (decision D33). -/
def Obligations.PairStepsAndStackOffset : Prop :=
  ∀ (rr : Rp) (e : Byte) (s : State),
    let sum := BitVec.ofInt 16 ((s.sp.toNat : Int) + e.toInt)
    let f := withFlags s.regs.f false false (decide (s.sp.toNat % 16 + e.toNat % 16 > 0x0F))
      (decide (s.sp.toNat % 256 + e.toNat > 0xFF))
    decode [opByte 0 (2 * rr.index) 3] = .ok (.incRp rr) 1 8 ∧
    decode [opByte 0 (2 * rr.index + 1) 3] = .ok (.decRp rr) 1 8 ∧
    exec (.incRp rr) s = .next (s.setRp rr (BitVec.ofNat 16 ((s.getRp rr).toNat + 1))) ∧
    exec (.decRp rr) s = .next (s.setRp rr (BitVec.ofInt 16 (((s.getRp rr).toNat : Int) - 1))) ∧
    decode [0xE8, e] = .ok (.addSPRel e) 2 16 ∧
    exec (.addSPRel e) s = .next { s with sp := sum, regs := { s.regs with f := f } } ∧
    decode [0xF8, e] = .ok (.ldHLSPRel e) 2 12 ∧
    exec (.ldHLSPRel e) s = .next { s with regs := { s.regs with h := hiByte sum, l := loByte sum, f := f } }

/-- ADD HL,rr completes with the sum modulo 65536, H from bit 11, CY from bit 15, N=0 and Z unchanged. R282. -/
def Obligations.AdditionToHL : Prop :=
  ∀ (rr : Rp) (s : State),
    let h := (ofBytes s.regs.h s.regs.l).toNat
    let v := (s.getRp rr).toNat
    decode [opByte 0 (2 * rr.index + 1) 1] = .ok (.addHLRp rr) 1 8 ∧
    exec (.addHLRp rr) s = .next { s with regs := { s.regs with
      h := hiByte (BitVec.ofNat 16 (h + v))
      l := loByte (BitVec.ofNat 16 (h + v))
      f := withFlags s.regs.f (getFlag s.regs.f .z) false (decide (h % 0x1000 + v % 0x1000 > 0x0FFF))
        (decide (h + v > 0xFFFF)) } }

/-- RLCA, RRCA, RLA and RRA complete with A rotated, CY the bit moved out, and Z, N, H cleared. R301 to R304. -/
def Obligations.AccumulatorRotates : Prop :=
  ∀ s : State,
    let after : RotOp → State := fun op => { s with regs := { s.regs with
      a := BitVec.ofNat 8 (rotated op s.regs.a.toNat (getFlag s.regs.f .cy).toNat)
      f := withFlags s.regs.f false false false (shiftedOut op s.regs.a.toNat) } }
    decode [0x07] = .ok .rlca 1 4 ∧ exec .rlca s = .next (after .rlc) ∧
    decode [0x0F] = .ok .rrca 1 4 ∧ exec .rrca s = .next (after .rrc) ∧
    decode [0x17] = .ok .rla 1 4 ∧ exec .rla s = .next (after .rl) ∧
    decode [0x1F] = .ok .rra 1 4 ∧ exec .rra s = .next (after .rr)

/-- RRC, RL, RR, SLA, SRA, SWAP and SRL complete on every register and on (HL) as their rules give. R306 to R312. -/
def Obligations.RotatesAndShiftsOfThePrefixPage : Prop :=
  ∀ (op : RotOp) (s : State), op ≠ .rlc → RotatesOperand op s

/-- RLC completes on every register and on (HL), with Z reflecting the result. R305, whose zero test is the spec's own
inference ("as RLCA but Z reflects the result [derived: ...]"). -/
def Obligations.RotateLeftCircularOfThePrefixPage : Prop :=
  ∀ s : State, RotatesOperand .rlc s

/-- BIT, RES and SET complete on every bit of every register and of (HL), with the flags stated. R313, R314, R315. -/
def Obligations.BitTestResetAndSet : Prop :=
  ∀ (b : Ix8) (r : R8) (s : State),
    let hl := ofBytes s.regs.h s.regs.l
    let tested : Byte → State := fun v => { s with regs := { s.regs with
      f := withFlags s.regs.f (!v.getLsbD b.index) false true (getFlag s.regs.f .cy) } }
    let cleared : Byte → Byte := fun v => v &&& ~~~(1#8 <<< b.index)
    let made : Byte → Byte := fun v => v ||| (1#8 <<< b.index)
    decode [0xCB, opByte 1 b.index r.index] = .ok (.bitSrc b (.reg r)) 2 8 ∧
    decode [0xCB, opByte 1 b.index 6] = .ok (.bitSrc b .atHL) 2 12 ∧
    exec (.bitSrc b (.reg r)) s = .next (tested (s.regs.get r)) ∧
    (∀ v, busRead s hl = .ok v → exec (.bitSrc b .atHL) s = .next (tested v)) ∧
    (∀ e, busRead s hl = .error e → exec (.bitSrc b .atHL) s = .fault e) ∧
    decode [0xCB, opByte 2 b.index r.index] = .ok (.resSrc b (.reg r)) 2 8 ∧
    decode [0xCB, opByte 2 b.index 6] = .ok (.resSrc b .atHL) 2 16 ∧
    exec (.resSrc b (.reg r)) s = .next { s with regs := s.regs.set r (cleared (s.regs.get r)) } ∧
    RewritesByte (.resSrc b .atHL) s cleared (fun _ => s.regs.f) ∧
    decode [0xCB, opByte 3 b.index r.index] = .ok (.setSrc b (.reg r)) 2 8 ∧
    decode [0xCB, opByte 3 b.index 6] = .ok (.setSrc b .atHL) 2 16 ∧
    exec (.setSrc b (.reg r)) s = .next { s with regs := s.regs.set r (made (s.regs.get r)) } ∧
    RewritesByte (.setSrc b .atHL) s made (fun _ => s.regs.f)

/-- 0xCB and the byte after it decode to one two-byte instruction of the page; the prefix row is never decoded. R376 and
R131; the constructor for the table's prefix row is the model's (log entry 10). -/
def Obligations.PrefixSelectsThePage : Prop :=
  (∀ (second : Byte) (rest : List Byte) (s : State),
    decode (0xCB :: second :: rest) = .ok (decodeCB second) 2 (cyclesCB second) ∧
    exec (.prefixCB second) s = exec (decodeCB second) s) ∧
  (∀ (op : RotOp) (b : Ix8) (src : Src8),
    decodeCB (opByte 0 op.index src.index) = .rotSrc op src ∧ decodeCB (opByte 1 b.index src.index) = .bitSrc b src ∧
    decodeCB (opByte 2 b.index src.index) = .resSrc b src ∧ decodeCB (opByte 3 b.index src.index) = .setSrc b src) ∧
  decode [0xCB] = .reject (.missingByte 0xCB) ∧
  (∀ (bytes : List Byte) (i : Instr) (size cycles : Nat) (second : Byte),
    decode bytes = .ok i size cycles → i ≠ .prefixCB second)

/-- JP and JR complete with PC at the target, when taken, and change nothing else. R341 to R345. -/
def Obligations.Jumps : Prop :=
  ∀ (cc : Cond) (lo hi e : Byte) (s : State),
    let nn := ofBytes hi lo
    let target := BitVec.ofInt 16 ((s.pc.toNat : Int) + e.toInt)
    let taken : Word → State := fun dest =>
      { s with pc := dest, cycles := { s.cycles with instruction := s.cycles.instruction + 4 } }
    decode [0xC3, lo, hi] = .ok (.jpNN nn) 3 16 ∧ exec (.jpNN nn) s = .next { s with pc := nn } ∧
    decode [opByte 3 cc.index 2, lo, hi] = .ok (.jpCond cc nn) 3 12 ∧
    exec (.jpCond cc nn) s = .next (if s.cond cc then taken nn else s) ∧
    decode [0xE9] = .ok .jpHL 1 4 ∧ exec .jpHL s = .next { s with pc := ofBytes s.regs.h s.regs.l } ∧
    decode [0x18, e] = .ok (.jrRel e) 2 12 ∧ exec (.jrRel e) s = .next { s with pc := target } ∧
    decode [opByte 0 (4 + cc.index) 0, e] = .ok (.jrCond cc e) 2 8 ∧
    exec (.jrCond cc e) s = .next (if s.cond cc then taken target else s)

/-- NOP changes nothing; DI clears IME, and EI_pending when EI_DELAY is 1. R370, R373. -/
def Obligations.NopAndDisableInterrupts : Prop :=
  ∀ s : State,
    decode [0x00] = .ok .nop 1 4 ∧ exec .nop s = .next s ∧ decode [0xF3] = .ok .di 1 4 ∧
    (s.params.eiDelay = false → exec .di s = .next { s with ime := false }) ∧
    (s.params.eiDelay = true → exec .di s = .next { s with ime := false, eiPending := false })

/-- HALT sets Halted; EI sets IME or EI_pending by EI_DELAY; STOP always ends in UNMODELLED_STOP. R371 (decision D22),
R372 (D23, D34), R374 (D21); with EI_DELAY = 1 and IME already set, EI sets EI_pending by the model's choice (log
entry 21). -/
def Obligations.HaltEnableInterruptsAndStop : Prop :=
  ∀ (n : Byte) (s : State),
    decode [0x76] = .ok .halt 1 4 ∧ exec .halt s = .next { s with halted := true } ∧
    decode [0xFB] = .ok .ei 1 4 ∧
    (s.params.eiDelay = false → exec .ei s = .next { s with ime := true }) ∧
    (s.params.eiDelay = true → exec .ei s = .next { s with eiPending := true }) ∧
    (s.params.eiDelay = true → s.eiPending = true → (beginStep s).ime = true ∧ (beginStep s).eiPending = false) ∧
    decode [0x10, n] = .ok (.stop n) 2 4 ∧ exec (.stop n) s = .fault (.unmodelledStop (s.pc - 2))

/-- The eleven undefined opcodes are one byte long and end the step in UNDEFINED_OPCODE with that byte. R375. The clause
about the step is the rule's own; that decoding gives an instruction whose meaning is the fault, with no cycles, is
the model's choice (log entry 9). -/
def Obligations.UndefinedOpcodesAreFatal : Prop :=
  (∀ op : Byte, (∃ i : Instr, i.undefinedByte = some op) ↔
    op ∈ [0xD3, 0xDB, 0xDD, 0xE3, 0xE4, 0xEB, 0xEC, 0xED, 0xF4, 0xFC, 0xFD]) ∧
  (∀ (i : Instr) (op : Byte) (s : State), i.undefinedByte = some op →
    decode [op] = .ok i 1 0 ∧ exec i s = .fault (.undefinedOpcode op) ∧
    (s.halted = false → busRead s s.pc = .ok op → step s = .fault (.undefinedOpcode op)))

/-- Unmapped addresses read 0 and ignore writes; work RAM and high RAM return and store the byte at their index. R63,
R68, R72. -/
def Obligations.UnmappedAddressesAndRam : Prop :=
  ∀ (s : State) (a : Word) (v : Byte),
    (((0xFEA0 ≤ a.toNat ∧ a.toNat ≤ 0xFF0E) ∨ (0xFF27 ≤ a.toNat ∧ a.toNat ≤ 0xFF2F)) →
      busRead s a = .ok 0 ∧ busWrite s a v = .ok s) ∧
    (0xC000 ≤ a.toNat → a.toNat ≤ 0xDFFF →
      busRead s a = .ok (s.wram.read (a.toNat - 0xC000)) ∧
      busWrite s a v = .ok { s with wram := s.wram.write (a.toNat - 0xC000) v }) ∧
    (0xFF80 ≤ a.toNat → a.toNat ≤ 0xFFFE →
      busRead s a = .ok (s.hram.read (a.toNat - 0xFF80)) ∧
      busWrite s a v = .ok { s with hram := s.hram.write (a.toNat - 0xFF80) v })

/-- VRAM and OAM are gated by the display mode; display and audio registers always reach the peripheral. R66, R70, R74,
R75, and R96 (decision D16) for the requests of every write. -/
def Obligations.PeripheralAddresses : Prop :=
  ∀ (s : State) (a : Word) (v : Byte),
    let written := { s with periph := (s.periph.write a v).1, ifReg := s.ifReg ||| (s.periph.write a v).2.setWidth 8 }
    (((0x8000 ≤ a.toNat ∧ a.toNat ≤ 0x9FFF) ∨ (0xFE00 ≤ a.toNat ∧ a.toNat ≤ 0xFE9F)) →
      busRead s a = .ok (if s.periph.locked then 0xFF else s.periph.read a) ∧
      busWrite s a v = .ok (if s.periph.locked then s else written)) ∧
    (((0xFF10 ≤ a.toNat ∧ a.toNat ≤ 0xFF26) ∨ (0xFF30 ≤ a.toNat ∧ a.toNat ≤ 0xFF3F) ∨
      (0xFF40 ≤ a.toNat ∧ a.toNat ≤ 0xFF4B)) →
      busRead s a = .ok (s.periph.read a) ∧ (a ≠ 0xFF46 → busWrite s a v = .ok written))

/-- The echo is the work RAM it mirrors, in both directions; IF and IE read and store all 8 bits on the bus. R69
(decision D28), R71 and R73 (decision D26). -/
def Obligations.EchoAndInterruptRegisters : Prop :=
  ∀ (s : State) (a : Word) (v : Byte),
    (0xE000 ≤ a.toNat → a.toNat ≤ 0xFDFF →
      busRead s a = .ok (s.wram.read (a.toNat - 0xE000)) ∧ busRead s a = busRead s (a - 0x2000) ∧
      busWrite s a v = .ok { s with wram := s.wram.write (a.toNat - 0xE000) v } ∧
      busWrite s a v = busWrite s (a - 0x2000) v) ∧
    busRead s 0xFF0F = .ok s.ifReg ∧ busWrite s 0xFF0F v = .ok { s with ifReg := v } ∧
    busRead s 0xFFFF = .ok s.ieReg ∧ busWrite s 0xFFFF v = .ok { s with ieReg := v }

/-- A write to the ROM address space sets ram_enable, the bank registers or mode, and nothing else. R80, R81 and R82
(decision D10), R83 (decision D9). -/
def Obligations.BankRegisterWrites : Prop :=
  ∀ (s : State) (a : Word) (v : Byte),
    (a.toNat ≤ 0x1FFF → busWrite s a v = .ok { s with mbc := { s.mbc with ramEnable := decide (v.toNat % 16 = 0xA) } }) ∧
    (0x2000 ≤ a.toNat → a.toNat ≤ 0x3FFF →
      busWrite s a v = .ok { s with mbc := { s.mbc with bankLower := BitVec.ofNat 5 (v.toNat % 32) } }) ∧
    (0x4000 ≤ a.toNat → a.toNat ≤ 0x5FFF →
      busWrite s a v = .ok { s with mbc := { s.mbc with bankUpper := BitVec.ofNat 2 (v.toNat % 4) } }) ∧
    (0x6000 ≤ a.toNat → a.toNat ≤ 0x7FFF →
      (s.params.mbc1ModeWrite = .toggle → busWrite s a v = .ok { s with mbc := { s.mbc with mode := !s.mbc.mode } }) ∧
      (s.params.mbc1ModeWrite = .bit0 →
        busWrite s a v = .ok { s with mbc := { s.mbc with mode := decide (v.toNat % 2 = 1) } }))

/-- ROM reads use bank 0 below 0x4000 and the corrected, masked bank above it, which is always in range. R84, R85, R86. -/
def Obligations.RomReadsGoThroughTheBank : Prop :=
  ∀ (s : State) (a : Word),
    let raw := if s.mbc.mode = false then s.mbc.bankUpper.toNat * 32 + s.mbc.bankLower.toNat else s.mbc.bankLower.toNat
    let corrected := if raw = 0x00 ∨ raw = 0x20 ∨ raw = 0x40 ∨ raw = 0x60 then raw + 1 else raw
    let bank := corrected % 2 ^ (s.romSizeCode.val + 1)
    (a.toNat ≤ 0x3FFF → busRead s a = .ok (s.rom.read a.toNat)) ∧
    (0x4000 ≤ a.toNat → a.toNat ≤ 0x7FFF → busRead s a = .ok (s.rom.read (bank * 0x4000 + (a.toNat - 0x4000)))) ∧
    (bank + 1) * 0x4000 ≤ s.romLength ∧
    (6 ≤ s.romSizeCode.val → s.mbc.mode = false → s.mbc.bankLower = 0 → bank = s.mbc.bankUpper.toNat * 32 + 1)

/-- External RAM reads 0xFF and ignores writes while disabled, else accesses the banked byte or is fatal. R87, R88 and
R89; the number of banks and the fatal rows are the spec's decision D11. -/
def Obligations.ExternalRamAccess : Prop :=
  ∀ (s : State) (a : Word) (v : Byte), 0xA000 ≤ a.toNat → a.toNat ≤ 0xBFFF →
    let banks := [0, 1, 1, 4, 16, 8].getD s.ramSizeCode.val 0
    let size := [0, 2, 8, 32, 128, 64].getD s.ramSizeCode.val 0 * 1024
    let k := ((if s.mbc.mode = true then s.mbc.bankUpper.toNat else 0) % banks) * 0x2000 + (a.toNat - 0xA000)
    (s.mbc.ramEnable = false → busRead s a = .ok 0xFF ∧ busWrite s a v = .ok s) ∧
    (s.mbc.ramEnable = true → banks ≠ 0 → k < size →
      busRead s a = .ok (s.cartRam.read k) ∧ busWrite s a v = .ok { s with cartRam := s.cartRam.write k v }) ∧
    (s.mbc.ramEnable = true → (banks = 0 ∨ size ≤ k) →
      busRead s a = .error (.extramOutOfRange a) ∧ busWrite s a v = .error (.extramOutOfRange a))

/-- A write to 0xFF46 copies 0xA0 bytes into OAM at once, tells the peripheral and charges DMA_CYCLES. R74, R76, R90,
R92 and R96, the spec's decisions D15, D16 and D17; the two peripherals are the model's (log entries 1 and 2). -/
def Obligations.DmaCopiesAPageToOam : Prop :=
  ∀ (s : State) (v : Byte),
    let src : Nat → Word := fun i => ofBytes v 0 + BitVec.ofNat 16 i
    ((∀ i, i < 0xA0 → s.Accessible (src i)) →
      ∃ t, busWrite s 0xFF46 v = .ok t ∧
        t = { s with periph := t.periph, ifReg := t.ifReg
                     cycles := { s.cycles with dma := s.cycles.dma + s.params.dmaCycles } } ∧
        (∃ p : Nat → Periph, p 0 = s.periph ∧
          (∀ i, i < 0xA0 → p (i + 1) = (p i).oamDmaWrite i (State.byteAt { s with periph := p i } (src i))) ∧
          t.periph = ((p 0xA0).write 0xFF46 v).1 ∧
          t.ifReg = s.ifReg ||| ((p 0xA0).write 0xFF46 v).2.setWidth 8) ∧
        (∀ cells, s.periph = .reference cells → t.ifReg = s.ifReg ∧
          (∀ i, i < 0xA0 → t.periph.read (0xFE00 + BitVec.ofNat 16 i) = s.byteAt (src i)) ∧
          t.periph.read 0xFF46 = v ∧
          (∀ a : Word, ¬ (0xFE00 ≤ a.toNat ∧ a.toNat ≤ 0xFE9F) → a ≠ 0xFF46 →
            t.periph.read a = s.periph.read a)) ∧
        (∀ calls, t.periph = .free calls → t.ifReg = s.ifReg ||| (Config.periphRequests calls).setWidth 8) ∧
        (∀ calls, s.periph = .free calls → (∀ i, i < 0xA0 → ¬ periphAddress (src i)) →
          t.periph = .free (.write 0xFF46 v ::
            ((List.range 0xA0).map (fun i => Config.PeriphCall.oamDma i (s.byteAt (src i)))).reverse ++ calls))) ∧
    (v = 0xFF → busWrite s 0xFF46 v = .error (.unmappedAddress 0xFF4C))

/-- A bus access is fatal exactly in 0xFF4C-0xFF7F, in absent enabled external RAM, and by a fatal DMA source. R64
(decision D14), R88 (decision D11), R90 (decision D17), R402. -/
def Obligations.BusAccessSucceeds : Prop :=
  ∀ (s : State) (a : Word) (v : Byte),
    ((∃ b, busRead s a = .ok b) ↔ s.Accessible a) ∧
    let fault : Word → Fault := fun b =>
      if 0xFF4C ≤ b.toNat ∧ b.toNat ≤ 0xFF7F then .unmappedAddress b else .extramOutOfRange b
    let src : Nat → Word := fun i => ofBytes v 0 + BitVec.ofNat 16 i
    (¬ s.Accessible a → busRead s a = .error (fault a) ∧ busWrite s a v = .error (fault a)) ∧
    ((∃ t, busWrite s a v = .ok t) ↔ s.Writable a v) ∧
    (∀ i, i < 0xA0 → (∀ j, j < i → s.Accessible (src j)) → ¬ s.Accessible (src i) →
      busWrite s 0xFF46 v = .error (fault (src i)))

/-- A bus write changes the reads R103 names and no other, and a stored byte is read back. R103 (a rule the spec
derives) and R105. -/
def Obligations.WritesChangeOnlyTheirBytes : Prop :=
  (∀ (s t : State) (a b : Word) (v : Byte), busWrite s a v = .ok t → ¬ canChange a b → busRead t b = busRead s b) ∧
  (∀ (s : State) (a : Word) (v : Byte), s.StoresAt a → ∃ t, busWrite s a v = .ok t ∧ busRead t a = .ok v)

/-- A storage in canonical form is determined by what its indices read as, and a write changes one index. The canonical
form of the model's memory (log entry 4), for the byte arrays of R44 and R45. -/
def Obligations.CanonicalMemoryIsUnique : Prop :=
  (∀ m n : Memory, m.wf → n.wf → (∀ k, m.read k = n.read k) → m = n) ∧
  (∀ (m : Memory) (k j : Nat) (v : Byte), m.wf →
    (m.write k v).read j = (if j = k then v else m.read j) ∧ (m.write k v).wf)

/-- Everything an instruction does outside the CPU is the bus writes of its stores, in order. The frame of every
instruction, over the stores of R204 to R221, R230, R249 to R252, R300, R314, R315, R346 to R350. -/
def Obligations.InstructionsStoreWhatTheyShould : Prop :=
  ∀ (i : Instr) (s t : State), exec i s = .next t →
    ∃ u, storeAll s (s.stores i) = .ok u ∧
      t = { u with regs := t.regs, sp := t.sp, pc := t.pc, ime := t.ime, halted := t.halted, eiPending := t.eiPending
                   cycles := { t.cycles with dma := u.cycles.dma } }

/-- Every byte no store of the instruction can change reads as before, for every instruction. The memory frame of every
instruction (R103). -/
def Obligations.InstructionsChangeOnlyStoredBytes : Prop :=
  ∀ (i : Instr) (s t : State) (a : Word), exec i s = .next t →
    (∀ p ∈ s.stores i, ¬ canChange p.1 a) → busRead t a = busRead s a

/-- Every instruction but STOP and the undefined opcodes answers a next state where its accesses are not fatal. The
completion of every constructor, on conditions about the state and the operands alone (R200, R402). -/
def Obligations.EveryInstructionCompletes : Prop :=
  ∀ (i : Instr) (s : State), (∀ n, i ≠ .stop n) → i.undefinedByte = none →
    (∀ a ∈ s.loads i, s.Accessible a) → (∀ p ∈ s.stores i, s.Writable p.1 p.2) →
    ∃ t, exec i s = .next t

/-- The instructions whose row of the flag table is empty leave the whole of F unchanged. The rows of "-" of R48, a
table the spec derives from the instruction rules. -/
def Obligations.FlagsAreWrittenOnlyByTheirInstructions : Prop :=
  ∀ (i : Instr) (s t : State), i.wellFormed = true → leavesFlags (encode i) = true → exec i s = .next t →
    t.regs.f = s.regs.f

/-- IME changes only by DI, EI, RETI and dispatch; Halted is set only by HALT and cleared only by dispatch. R37 and R38. -/
def Obligations.WritersOfImeAndHalted : Prop :=
  (∀ (i : Instr) (s t : State), exec i s = .next t →
    (i ≠ .di → i ≠ .ei → i ≠ .reti → t.ime = s.ime) ∧ (i ≠ .di → i ≠ .ei → t.eiPending = s.eiPending) ∧
    (i ≠ .halt → t.halted = s.halted)) ∧
  (∀ s t : State, step s = .next t → s.halted = true → t.halted = false →
    (s.ime = true ∨ (s.params.eiDelay = true ∧ s.eiPending = true)) ∧ t.ime = false ∧
    ∃ i : IntSource, t.pc = BitVec.ofNat 16 (0x40 + 8 * i.bit))

/-- A step executes the instruction its bytes decode to, with PC past it, then updates and checks interrupts. R420 and
R421; the argument of the update is the spec's decision D18 (R422), the pending EI the decision D21. -/
def Obligations.StepRunsTheDecodedInstruction : Prop :=
  (∀ (s : State) (bytes : List Byte) (i : Instr) (size cycles : Nat),
    s.halted = false → fetch s s.pc = .ok bytes → decode bytes = .ok i size cycles →
    step s =
      match exec i { s with
          pc := s.pc + BitVec.ofNat 16 size
          ime := s.ime || (s.params.eiDelay && s.eiPending)
          eiPending := s.eiPending && !s.params.eiDelay
          cycles := { instruction := cycles, dma := 0, dispatch := 0 } } with
      | .next t => finishStep t
      | .fault e => .fault e
      | .refused r => .refused r) ∧
  (∀ (s : State) (e : Fault), s.halted = false → fetch s s.pc = .error e → step s = .fault e) ∧
  (∀ s : State, s.halted = true → step s = finishStep { s with
    ime := s.ime || (s.params.eiDelay && s.eiPending)
    eiPending := s.eiPending && !s.params.eiDelay
    cycles := { instruction := 4, dma := 0, dispatch := 0 } }) ∧
  (∀ s : State, finishStep s = done (interruptCheck { s with
    periph := (s.periph.update s.cycles.instruction).1
    ifReg := s.ifReg ||| (s.periph.update s.cycles.instruction).2.setWidth 8 }))

/-- The instruction is fetched byte by byte through the bus, and beyond 0xFFFF it is DECODE_PAST_END. R121 (decisions D2
and D3), R120, and R64 and R88 for a byte that cannot be read. -/
def Obligations.FetchReadsBytesInOrder : Prop :=
  (∀ (s : State) (a : Word) (op : Byte) (rest : List Byte),
    a.toNat + opLength op ≤ 0x10000 → rest.length + 1 = opLength op → busRead s a = .ok op →
    (∀ k v, rest[k]? = some v → busRead s (a + BitVec.ofNat 16 (k + 1)) = .ok v) →
    fetch s a = .ok (op :: rest)) ∧
  (∀ (s : State) (k : Nat), s.pc.toNat + k ≤ 0xFFFF →
    (k = 0 ∨ ∃ op, busRead s s.pc = .ok op ∧ k < opLength op) →
    (∀ j, j < k → s.Accessible (s.pc + BitVec.ofNat 16 j)) → ¬ s.Accessible (s.pc + BitVec.ofNat 16 k) →
    let a := s.pc + BitVec.ofNat 16 k
    let fault : Fault := if 0xFF4C ≤ a.toNat ∧ a.toNat ≤ 0xFF7F then .unmappedAddress a else .extramOutOfRange a
    fetch s s.pc = .error fault ∧ (s.halted = false → step s = .fault fault)) ∧
  (∀ (s : State) (op : Byte), s.pc.toNat + opLength op > 0x10000 → busRead s s.pc = .ok op →
    (∀ k, s.pc.toNat + k < 0x10000 → s.Accessible (s.pc + BitVec.ofNat 16 k)) →
    fetch s s.pc = .error (.decodePastEnd s.pc) ∧
    (s.halted = false → step s = .fault (.decodePastEnd s.pc)))

/-- Dispatch clears the IF bit, IME and Halted, pushes PC, goes to the vector and charges its cost. R411 and R410; the
vectors are the spec's decision D20. -/
def Obligations.DispatchEntersTheHandler : Prop :=
  ∀ (s : State) (i : IntSource),
    let start := { s with ifReg := s.ifReg &&& ~~~(1#8 <<< i.bit), ime := false, halted := false }
    (∀ t, push16 start s.pc = .ok t → dispatch s i = .ok { t with
      pc := BitVec.ofNat 16 (0x40 + 8 * i.bit)
      cycles := { t.cycles with dispatch := t.params.intDispatchCycles } }) ∧
    (∀ e, push16 start s.pc = .error e → dispatch s i = .error e)

/-- With IME set the lowest source set in both IF and IE is dispatched, one per step; otherwise nothing happens. R412
(decision D26) and R413. -/
def Obligations.LowestReadySourceIsServiced : Prop :=
  (∀ n, n < 5 ↔ ∃ i : IntSource, i.bit = n) ∧
  (∀ (s : State) (i : IntSource), s.ime = true →
    s.ieReg.getLsbD i.bit = true → s.ifReg.getLsbD i.bit = true →
    (∀ j : IntSource, j.bit < i.bit → ¬ (s.ieReg.getLsbD j.bit = true ∧ s.ifReg.getLsbD j.bit = true)) →
    interruptCheck s = dispatch s i) ∧
  (∀ s : State,
    (s.ime = false ∨ ∀ j : IntSource, ¬ (s.ieReg.getLsbD j.bit = true ∧ s.ifReg.getLsbD j.bit = true)) →
    interruptCheck s = .ok s)

/-- Dispatch and then RETI come back to the interrupted PC and SP, with the registers kept and IME clear. R411, R414 and
R352 (C8). -/
def Obligations.HandlerReturnsWhereItWasEntered : Prop :=
  ∀ (s : State) (i : IntSource), s.StoresAt (s.sp - 1) → s.StoresAt (s.sp - 2) →
    ∃ t u, dispatch s i = .ok t ∧ exec .reti t = .next u ∧
      u.pc = s.pc ∧ u.sp = s.sp ∧ u.regs = s.regs ∧ u.ime = false ∧ u.halted = false

/-- Every step keeps the invariant, the ROM, the header sizes and the parameters. R32, R41, R44, R45 ("never written
after launch", "never resized afterward"). -/
def Obligations.StepKeepsInvariant : Prop :=
  ∀ s t : State, s.Inv → step s = .next t →
    t.Inv ∧ t.rom = s.rom ∧ t.romSizeCode = s.romSizeCode ∧ t.ramSizeCode = s.ramSizeCode ∧ t.params = s.params

/-- The state right after reset has the invariant and the reset values of the spec. R49, whose values are the spec's
choices (decisions D5, D6, D7; log entry 6). -/
def Obligations.ResetHasInvariant : Prop :=
  State.reset.Inv ∧
  State.reset.regs = { a := 0x01, f := 0xB0, b := 0x00, c := 0x13, d := 0x00, e := 0xD8, h := 0x01, l := 0x4D } ∧
  State.reset.sp = 0xFFFE ∧ State.reset.pc = 0x0100 ∧ State.reset.ime = false ∧ State.reset.halted = false ∧
  State.reset.eiPending = false ∧ State.reset.ifReg = 0 ∧ State.reset.ieReg = 0 ∧
  State.reset.mbc = { ramEnable := false, bankLower := 0, bankUpper := 0, mode := false }

/-- Decoding an encoded instruction gives it back, and encoding a decoded one gives its bytes back. R120 to R137: the
encoding is one-to-one on the well-formed instructions. -/
def Obligations.DecodeInvertsEncode : Prop :=
  (∀ (i : Instr) (rest : List Byte), i.wellFormed = true →
    ∃ cycles, decode (encode i ++ rest) = .ok i (encode i).length cycles) ∧
  (∀ (bytes : List Byte) (i : Instr) (size cycles : Nat), decode bytes = .ok i size cycles →
    i.wellFormed = true ∧ size ≤ bytes.length ∧ encode i = bytes.take size)

/-- No step is refused, and none ends in UNREACHABLE_DECODE or MALFORMED_ROM. R133 ("a conforming model never raises
it", the spec's inference) and R401. -/
def Obligations.StepsFaultOnlyForTheirReasons : Prop :=
  ∀ s : State, (∃ t, step s = .next t) ∨
    ∃ e, step s = .fault e ∧ (∀ op, e ≠ .unreachableDecode op) ∧ (∀ d, e ≠ .malformedRom d)

/-- A halted core with IME clear stays so for any number of steps, keeping its registers and memory. R372 corner (a) and
R462; the end of a program is the spec's decision D34. -/
def Obligations.EndedProgramStaysEnded : Prop :=
  ∀ (n : Nat) (s : State), s.Ended →
    ∃ t, runs n s t ∧ t.Ended ∧ t.regs = s.regs ∧ t.sp = s.sp ∧ t.pc = s.pc ∧ t.ieReg = s.ieReg ∧ t.mbc = s.mbc ∧
      t.wram = s.wram ∧ t.hram = s.hram ∧ t.cartRam = s.cartRam

/-- No step depends on DMA_CYCLES or INT_DISPATCH_CYCLES but in the cycle counts it returns. R92 and R410: "No
functional rule depends on it." -/
def Obligations.TimingParametersChangeOnlyCycleCounts : Prop :=
  ∀ (s : State) (dma int : Nat) (before : Cycles),
    let p := { s.params with dmaCycles := dma, intDispatchCycles := int }
    (∀ t, step s = .next t → ∃ c : Cycles, c.instruction = t.cycles.instruction ∧
      step { s with params := p, cycles := before } = .next { t with params := p, cycles := c }) ∧
    (∀ e, step s = .fault e → step { s with params := p, cycles := before } = .fault e)

/-- A step counts, from zero, the instruction, every DMA its stores start and the dispatch it makes, and returns the
sum. R42, R92, R138, R410, R423 and R470; the figures are the spec's decisions D17 and D19, and the counts that
State keeps after a step are the model's choice (log entry 8). -/
def Obligations.CyclesOfAStep : Prop :=
  let ends : State → State → Prop := fun u t =>
    (u.TakesInterrupt → t.cycles =
      { instruction := u.cycles.instruction
        dma := u.cycles.dma + u.params.dmaCycles * dmaStarts (u.pushed u.pc)
        dispatch := u.params.intDispatchCycles }) ∧
    (¬ u.TakesInterrupt → t.cycles = u.cycles)
  (∀ (i : Instr) (s t : State), exec i s = .next t → t.cycles =
    { instruction := s.cycles.instruction + s.takenExtra i
      dma := s.cycles.dma + s.params.dmaCycles * dmaStarts (s.stores i)
      dispatch := s.cycles.dispatch }) ∧
  (∀ s t : State, step s = .next t →
    t.stepCycles = t.cycles.instruction + t.cycles.dma + t.cycles.dispatch ∧
    (s.halted = true → ends { s with
      ime := s.ime || (s.params.eiDelay && s.eiPending)
      eiPending := s.eiPending && !s.params.eiDelay
      cycles := { instruction := 4, dma := 0, dispatch := 0 } } t) ∧
    (∀ (bytes : List Byte) (i : Instr) (size cycles : Nat), s.halted = false → fetch s s.pc = .ok bytes →
      decode bytes = .ok i size cycles →
      let start := { s with
        pc := s.pc + BitVec.ofNat 16 size
        ime := s.ime || (s.params.eiDelay && s.eiPending)
        eiPending := s.eiPending && !s.params.eiDelay
        cycles := { instruction := cycles, dma := 0, dispatch := 0 } }
      ∃ u, exec i start = .next u ∧ ends u t ∧ u.cycles =
        { instruction := cycles + s.takenExtra i, dma := s.params.dmaCycles * dmaStarts (start.stores i)
          dispatch := 0 }))

/-- Launch refuses the first defect of the header in its order, and otherwise starts in a state with the invariant. R450
to R455 and R49 (decisions D5 to D7, D12, D13, D32, D36); what an image holds is log entry 18, the mask of F log
entry 20. -/
def Obligations.LaunchChecksTheHeader : Prop :=
  (∀ x : LaunchInput,
    let rom := Memory.load x.romLength x.rom
    let fails : RomDefect → Prop := fun d => launch x = .error (.malformedRom d)
    let c1 := 0x150 ≤ x.romLength
    let c2 := (rom.read 0x148).toNat ≤ 8
    let c3 := x.romLength = 0x8000 * 2 ^ (rom.read 0x148).toNat
    let sum := ((List.range 25).map (fun i => (rom.read (0x134 + i)).toNat)).sum
    let c4 := rom.read 0x14D =
      BitVec.ofInt 8 (0 - (sum : Int) - (if x.checksumForm = .perByte then 25 else 1))
    let c5 := rom.read 0x147 = 1 ∨ rom.read 0x147 = 2 ∨ rom.read 0x147 = 3
    let c6 := (rom.read 0x149).toNat ≤ 5
    (¬ c1 → fails .length) ∧ (c1 → ¬ c2 → fails .romSizeCode) ∧ (c1 → c2 → ¬ c3 → fails .length) ∧
    (c1 → c2 → c3 → ¬ c4 → fails .checksum) ∧ (c1 → c2 → c3 → c4 → ¬ c5 → fails .cartType) ∧
    (c1 → c2 → c3 → c4 → c5 → ¬ c6 → fails .ramSizeCode) ∧
    (c1 → c2 → c3 → c4 → c5 → c6 → ∃ s, launch x = .ok s ∧
      s.regs = { x.regs with f := x.regs.f &&& 0xF0 } ∧ s.sp = x.sp ∧ s.pc = 0x0100 ∧
      s.ime = false ∧ s.eiPending = false ∧ s.halted = false ∧ s.ifReg = 0 ∧ s.ieReg = 0 ∧
      s.mbc = { ramEnable := false, bankLower := 0, bankUpper := 0, mode := false } ∧ s.rom = rom ∧
      s.romSizeCode.val = (rom.read 0x148).toNat ∧ s.ramSizeCode.val = (rom.read 0x149).toNat ∧
      s.wram = Memory.load 0x2000 x.wram ∧ s.hram = Memory.load 0x7F x.hram ∧
      s.cartRam =
        Memory.load ([0, 0x800, 0x2000, 0x8000, 0x20000, 0x10000].getD (rom.read 0x149).toNat 0) x.cartRam ∧
      s.params = x.params ∧ s.periph = x.periph ∧ (x.periph.Clean → s.Inv))) ∧
  (∀ (size k : Nat) (v : Byte) (image before after : List Host.Cell),
    (size ≤ k → (Memory.load size image).read k = 0) ∧
    ((∀ cell ∈ image, cell.1 ≠ k) → (Memory.load size image).read k = 0) ∧
    (k < size → (∀ cell ∈ after, cell.1 ≠ k) → (Memory.load size (before ++ (k, v) :: after)).read k = v)) ∧
  (∀ bytes : List Byte, bytes.length = 25 →
    headerChecksum .perByte bytes + 24 = headerChecksum .literal bytes)

/-- Bytes written out from the map decode to the instruction they stand for. R123, R130, R132. -/
def Obligations.KnownBytesDecode : Prop :=
  decode [0b01000111] = .ok (.ldRR .b .a) 1 4 ∧
  decode [0b00001110, 0x5A] = .ok (.ldSrcN (.reg .c) 0x5A) 2 8 ∧
  decode [0b11111010, 0x00, 0xC0] = .ok (.ldAMNN 0xC000) 3 16 ∧
  decode [0b11010110, 0x01] = .ok (.aluN .sub 0x01) 2 8 ∧
  decode [0b10110110] = .ok (.aluSrc .or .atHL) 1 8 ∧
  decode [0b00101001] = .ok (.addHLRp .hl) 1 8 ∧
  decode [0b11001011, 0b11111110] = .ok (.setSrc .i7 .atHL) 2 16 ∧
  decode [0b11001011, 0b00110111] = .ok (.rotSrc .swap (.reg .a)) 2 8 ∧
  decode [0b00110000, 0xFE] = .ok (.jrCond .nc 0xFE) 2 8 ∧
  decode [0b11001101, 0x00, 0x02] = .ok (.callNN 0x0200) 3 24 ∧
  decode [0b11110101] = .ok (.pushRp .af) 1 16 ∧
  decode [0b11111011] = .ok .ei 1 4
end

