-- ==== Sys2Proof/Laws/Memory.lean ====
section
/-! SUPPORT. The laws of one storage: reading after a write, and the canonical form every operation keeps. -/

namespace Sys2Proof.Machine.Memory

/-! ## Reading after erasing, inserting and writing -/

theorem read_erase_same (m : Memory) (k : Nat) : (m.erase k).read k = unlisted := by
  induction m with
  | nil => rfl
  | cons cell rest ih =>
    by_cases h : cell.1 = k
    · simpa [erase, h] using ih
    · simpa [erase, h, read] using ih

theorem read_erase_other (m : Memory) {k j : Nat} (hj : j ≠ k) : (m.erase k).read j = m.read j := by
  induction m with
  | nil => rfl
  | cons cell rest ih =>
    by_cases h : cell.1 = k
    · have : cell.1 ≠ j := fun e => hj (e ▸ h)
      simpa [erase, h, read, this, Ne.symm hj] using ih
    · simp [erase, h, read, ih]

theorem read_insert_same (m : Memory) (k : Nat) (v : Byte) (h : ∀ cell ∈ m, cell.1 ≠ k) :
    (m.insert k v).read k = v := by
  induction m with
  | nil => simp [insert, read]
  | cons cell rest ih =>
    have hk : cell.1 ≠ k := h cell (by simp)
    by_cases hl : k < cell.1
    · simp [insert, hl, read]
    · simp [insert, hl, read, hk, ih (fun c hc => h c (by simp [hc]))]

theorem read_insert_other (m : Memory) {k j : Nat} (v : Byte) (hj : j ≠ k) :
    (m.insert k v).read j = m.read j := by
  induction m with
  | nil => simp [insert, read, Ne.symm hj]
  | cons cell rest ih =>
    by_cases hl : k < cell.1
    · simp [insert, hl, read, Ne.symm hj]
    · simp [insert, hl, read, ih]

theorem not_mem_erase (m : Memory) (k : Nat) : ∀ cell ∈ m.erase k, cell.1 ≠ k := by
  induction m with
  | nil => simp [erase]
  | cons cell rest ih =>
    by_cases h : cell.1 = k
    · simpa [erase, h] using ih
    · simpa [erase, h] using ih

theorem mem_of_mem_erase {m : Memory} {k : Nat} {c : Host.Cell} (hc : c ∈ m.erase k) : c ∈ m := by
  induction m with
  | nil => simp [erase] at hc
  | cons cell rest ih =>
    by_cases h : cell.1 = k
    · simp only [erase, h, if_true] at hc
      exact List.mem_cons_of_mem _ (ih hc)
    · simp only [erase, h, if_false, List.mem_cons] at hc
      rcases hc with rfl | hc
      · simp
      · exact List.mem_cons_of_mem _ (ih hc)

theorem mem_insert {m : Memory} {k : Nat} {v : Byte} {c : Host.Cell} (hc : c ∈ m.insert k v) :
    c = (k, v) ∨ c ∈ m := by
  induction m with
  | nil => simpa [insert] using hc
  | cons cell rest ih =>
    by_cases hl : k < cell.1
    · simpa [insert, hl] using hc
    · simp only [insert, hl, if_false, List.mem_cons] at hc ⊢
      rcases hc with hc | hc
      · exact .inr (.inl hc)
      · rcases ih hc with h | h
        · exact .inl h
        · exact .inr (.inr h)

/-- A read at the index just written gives the byte written. -/
@[simp] theorem read_write_same (m : Memory) (k : Nat) (v : Byte) : (m.write k v).read k = v := by
  unfold write
  split
  · next h => rw [read_erase_same, h]
  · exact read_insert_same _ _ _ (not_mem_erase m k)

/-- A write leaves every other index as it was. -/
theorem read_write_other (m : Memory) {k j : Nat} (v : Byte) (hj : j ≠ k) : (m.write k v).read j = m.read j := by
  unfold write
  split
  · exact read_erase_other m hj
  · rw [read_insert_other _ _ hj, read_erase_other m hj]

/-! ## The canonical form -/

theorem wf_nil : wf [] := ⟨.nil, by simp⟩

theorem wf_erase {m : Memory} (h : m.wf) (k : Nat) : (m.erase k).wf := by
  refine ⟨?_, fun c hc => h.2 c (mem_of_mem_erase hc)⟩
  have hp := h.1
  clear h
  induction m with
  | nil => simp [erase]
  | cons cell rest ih =>
    rw [List.pairwise_cons] at hp
    by_cases hk : cell.1 = k
    · simpa [erase, hk] using ih hp.2
    · simp only [erase, hk, if_false, List.pairwise_cons]
      exact ⟨fun c hc => hp.1 c (mem_of_mem_erase hc), ih hp.2⟩

theorem wf_insert {m : Memory} (h : m.wf) {k : Nat} {v : Byte} (hk : ∀ cell ∈ m, cell.1 ≠ k)
    (hv : v ≠ unlisted) : (m.insert k v).wf := by
  refine ⟨?_, fun c hc => ?_⟩
  · have hp := h.1
    clear h
    induction m with
    | nil => simp [insert]
    | cons cell rest ih =>
      rw [List.pairwise_cons] at hp
      have hne : cell.1 ≠ k := hk cell (by simp)
      by_cases hl : k < cell.1
      · simp only [insert, if_pos hl, List.pairwise_cons, List.mem_cons, forall_eq_or_imp]
        exact ⟨⟨hl, fun c hc => lt_trans hl (hp.1 c hc)⟩, hp.1, hp.2⟩
      · simp only [insert, hl, if_false, List.pairwise_cons]
        refine ⟨fun c hc => ?_, ih (fun c hc => hk c (by simp [hc])) hp.2⟩
        rcases mem_insert hc with rfl | hc
        · exact lt_of_le_of_ne (not_lt.mp hl) hne
        · exact hp.1 c hc
  · rcases mem_insert hc with rfl | hc
    · exact hv
    · exact h.2 c hc

/-- A write keeps the canonical form. -/
theorem wf_write {m : Memory} (h : m.wf) (k : Nat) (v : Byte) : (m.write k v).wf := by
  unfold write
  split
  · exact wf_erase h k
  · next hv => exact wf_insert (wf_erase h k) (not_mem_erase m k) hv

/-- A write inside the storage keeps every entry inside it. -/
theorem within_write {m : Memory} {size : Nat} (h : m.within size) {k : Nat} (hk : k < size) (v : Byte) :
    (m.write k v).within size := by
  intro c hc
  unfold write at hc
  split at hc
  · exact h c (mem_of_mem_erase hc)
  · rcases mem_insert hc with rfl | hc
    · exact hk
    · exact h c (mem_of_mem_erase hc)

/-! ## Loading an image -/

@[simp] theorem load_nil (size : Nat) : load size [] = [] := rfl

/-- The last entry of an image is stored last, and only inside the storage. -/
theorem load_concat (size : Nat) (image : List Host.Cell) (cell : Host.Cell) :
    load size (image ++ [cell]) =
      if cell.1 < size then (load size image).write cell.1 cell.2 else load size image := by
  simp [load, List.foldl_append]

/-- What an image loads to is in canonical form and inside the storage. -/
theorem load_clean (size : Nat) (image : List Host.Cell) : (load size image).wf ∧ (load size image).within size := by
  suffices h : ∀ m : Memory, m.wf ∧ m.within size →
      (image.foldl (fun m cell => if cell.1 < size then m.write cell.1 cell.2 else m) m).wf ∧
      (image.foldl (fun m cell => if cell.1 < size then m.write cell.1 cell.2 else m) m).within size from
    h [] ⟨wf_nil, by simp [within]⟩
  induction image with
  | nil => exact fun m hm => hm
  | cons cell rest ih =>
    intro m hm
    simp only [List.foldl_cons]
    apply ih
    split
    · next hlt => exact ⟨wf_write hm.1 _ _, within_write hm.2 hlt _⟩
    · exact hm

end Sys2Proof.Machine.Memory
end

