-- ==== Sys2Proof/Laws/Bus.lean ====
section
/-! SUPPORT. The laws of the bus: what the routing of an address says of it, what a read gives in each region, what a
write can change, and that every write keeps the storages in canonical form. -/

namespace Sys2Proof.Machine

/-! ## Routing -/

theorem route_romFixed {a : Word} (h : a.toNat ≤ 0x3FFF) : route a = .romFixed a.toNat := by
  unfold route
  simp only []
  repeat rw [if_neg (by omega)]
  rw [if_pos h]

theorem route_romSwitch {a : Word} (h1 : 0x4000 ≤ a.toNat) (h2 : a.toNat ≤ 0x7FFF) :
    route a = .romSwitch (a.toNat - 0x4000) := by
  unfold route
  simp only []
  repeat rw [if_neg (by omega)]
  rw [if_pos h2]

theorem route_vram {a : Word} (h1 : 0x8000 ≤ a.toNat) (h2 : a.toNat ≤ 0x9FFF) : route a = .vram := by
  unfold route
  simp only []
  repeat rw [if_neg (by omega)]
  rw [if_pos h2]

theorem route_extRam {a : Word} (h1 : 0xA000 ≤ a.toNat) (h2 : a.toNat ≤ 0xBFFF) :
    route a = .extRam (a.toNat - 0xA000) := by
  unfold route
  simp only []
  repeat rw [if_neg (by omega)]
  rw [if_pos h2]

theorem route_wram {a : Word} (h1 : 0xC000 ≤ a.toNat) (h2 : a.toNat ≤ 0xDFFF) :
    route a = .wram (a.toNat - 0xC000) := by
  unfold route
  simp only []
  repeat rw [if_neg (by omega)]
  rw [if_pos h2]

theorem route_echo {a : Word} (h1 : 0xE000 ≤ a.toNat) (h2 : a.toNat ≤ 0xFDFF) :
    route a = .wram (a.toNat - 0xE000) := by
  unfold route
  simp only []
  repeat rw [if_neg (by omega)]
  rw [if_pos h2]

theorem route_oam {a : Word} (h1 : 0xFE00 ≤ a.toNat) (h2 : a.toNat ≤ 0xFE9F) : route a = .oam := by
  unfold route
  simp only []
  repeat rw [if_neg (by omega)]
  rw [if_pos h2]

theorem route_unmapped {a : Word}
    (h : (0xFEA0 ≤ a.toNat ∧ a.toNat ≤ 0xFF0E) ∨ (0xFF27 ≤ a.toNat ∧ a.toNat ≤ 0xFF2F)) : route a = .unmapped := by
  unfold route
  simp only []
  rcases h with ⟨h1, h2⟩ | ⟨h1, h2⟩
  all_goals
    repeat rw [if_neg (by omega)]
    rw [if_pos h2]

theorem route_audio {a : Word}
    (h : (0xFF10 ≤ a.toNat ∧ a.toNat ≤ 0xFF26) ∨ (0xFF30 ≤ a.toNat ∧ a.toNat ≤ 0xFF3F)) : route a = .audio := by
  unfold route
  simp only []
  rcases h with ⟨h1, h2⟩ | ⟨h1, h2⟩
  all_goals
    repeat rw [if_neg (by omega)]
    rw [if_pos h2]

theorem route_display {a : Word} (h1 : 0xFF40 ≤ a.toNat) (h2 : a.toNat ≤ 0xFF4B) (h3 : a.toNat ≠ 0xFF46) :
    route a = .display := by
  unfold route
  simp only []
  repeat rw [if_neg (by omega)]
  rw [if_pos h2]

theorem route_hole {a : Word} (h1 : 0xFF4C ≤ a.toNat) (h2 : a.toNat ≤ 0xFF7F) : route a = .hole := by
  unfold route
  simp only []
  repeat rw [if_neg (by omega)]
  rw [if_pos h2]

theorem route_hram {a : Word} (h1 : 0xFF80 ≤ a.toNat) (h2 : a.toNat ≤ 0xFFFE) :
    route a = .hram (a.toNat - 0xFF80) := by
  unfold route
  simp only []
  repeat rw [if_neg (by omega)]

theorem route_intFlag : route 0xFF0F = .intFlag := rfl

theorem route_intEnable : route 0xFFFF = .intEnable := rfl

theorem route_dmaTrigger : route 0xFF46 = .dmaTrigger := rfl

/-- What the target of an address says of the address (R61). -/
theorem route_inv (a : Word) :
    match route a with
    | .dmaTrigger => a.toNat = 0xFF46
    | .intFlag => a.toNat = 0xFF0F
    | .intEnable => a.toNat = 0xFFFF
    | .romFixed i => a.toNat = i ∧ i < 0x4000
    | .romSwitch i => a.toNat = 0x4000 + i ∧ i < 0x4000
    | .vram => 0x8000 ≤ a.toNat ∧ a.toNat ≤ 0x9FFF
    | .extRam i => a.toNat = 0xA000 + i ∧ i < 0x2000
    | .wram i => i < 0x2000 ∧ (a.toNat = 0xC000 + i ∨ (a.toNat = 0xE000 + i ∧ i < 0x1E00))
    | .oam => 0xFE00 ≤ a.toNat ∧ a.toNat ≤ 0xFE9F
    | .unmapped => (0xFEA0 ≤ a.toNat ∧ a.toNat ≤ 0xFF0E) ∨ (0xFF27 ≤ a.toNat ∧ a.toNat ≤ 0xFF2F)
    | .audio => (0xFF10 ≤ a.toNat ∧ a.toNat ≤ 0xFF26) ∨ (0xFF30 ≤ a.toNat ∧ a.toNat ≤ 0xFF3F)
    | .display => 0xFF40 ≤ a.toNat ∧ a.toNat ≤ 0xFF4B ∧ a.toNat ≠ 0xFF46
    | .hole => 0xFF4C ≤ a.toNat ∧ a.toNat ≤ 0xFF7F
    | .hram i => a.toNat = 0xFF80 + i ∧ i < 0x7F := by
  have hlt := a.isLt
  have eqOf : ∀ b : Word, a.toNat = b.toNat → a = b := fun b => BitVec.eq_of_toNat_eq
  by_cases h1 : a.toNat ≤ 0x3FFF
  · rw [route_romFixed h1]; exact ⟨rfl, by omega⟩
  by_cases h2 : a.toNat ≤ 0x7FFF
  · rw [route_romSwitch (by omega) h2]; exact ⟨by omega, by omega⟩
  by_cases h3 : a.toNat ≤ 0x9FFF
  · rw [route_vram (by omega) h3]; exact ⟨by omega, by omega⟩
  by_cases h4 : a.toNat ≤ 0xBFFF
  · rw [route_extRam (by omega) h4]; exact ⟨by omega, by omega⟩
  by_cases h5 : a.toNat ≤ 0xDFFF
  · rw [route_wram (by omega) h5]; exact ⟨by omega, .inl (by omega)⟩
  by_cases h6 : a.toNat ≤ 0xFDFF
  · rw [route_echo (by omega) h6]; exact ⟨by omega, .inr ⟨by omega, by omega⟩⟩
  by_cases h7 : a.toNat ≤ 0xFE9F
  · rw [route_oam (by omega) h7]; exact ⟨by omega, by omega⟩
  by_cases h8 : (0xFEA0 ≤ a.toNat ∧ a.toNat ≤ 0xFF0E) ∨ (0xFF27 ≤ a.toNat ∧ a.toNat ≤ 0xFF2F)
  · rw [route_unmapped h8]; exact h8
  by_cases h9 : (0xFF10 ≤ a.toNat ∧ a.toNat ≤ 0xFF26) ∨ (0xFF30 ≤ a.toNat ∧ a.toNat ≤ 0xFF3F)
  · rw [route_audio h9]; exact h9
  by_cases h10 : a.toNat = 0xFF0F
  · rw [eqOf 0xFF0F h10, route_intFlag]; rfl
  by_cases h11 : a.toNat = 0xFF46
  · rw [eqOf 0xFF46 h11, route_dmaTrigger]; rfl
  by_cases h12 : a.toNat ≤ 0xFF4B
  · rw [route_display (by omega) h12 h11]; exact ⟨by omega, h12, h11⟩
  by_cases h13 : a.toNat ≤ 0xFF7F
  · rw [route_hole (by omega) h13]; exact ⟨by omega, h13⟩
  by_cases h14 : a.toNat ≤ 0xFFFE
  · rw [route_hram (by omega) h14]; exact ⟨by omega, by omega⟩
  · rw [eqOf 0xFFFF (show a.toNat = 0xFFFF by omega), route_intEnable]; rfl

/-! ## The CPU's own state and the bus

A bus access neither reads nor writes the registers, SP, PC, IME, Halted and EI_pending, and of the cycle counter
writes only the DMA's part. -/

/-- `s` with the CPU's own state taken from `c`. -/
def State.putCpu (s c : State) : State :=
  { s with regs := c.regs, sp := c.sp, pc := c.pc, ime := c.ime, halted := c.halted, eiPending := c.eiPending
           cycles := { c.cycles with dma := s.cycles.dma } }

theorem extRamAccess_putCpu (s c : State) (a : Word) (i : Nat) :
    (s.putCpu c).extRamAccess a i = s.extRamAccess a i := rfl

/-- A read depends on nothing of the CPU's own state. -/
theorem busRead_putCpu (s c : State) (a : Word) : busRead (s.putCpu c) a = busRead s a := rfl

theorem dmaCopy_putCpu (src : Word) (c : State) (l : List Nat) (s : State) :
    dmaCopy src (s.putCpu c) l = (dmaCopy src s l).map (·.putCpu c) := by
  induction l generalizing s with
  | nil => rfl
  | cons i rest ih =>
    simp only [dmaCopy, dmaByte, busRead_putCpu]
    cases busRead s (src + BitVec.ofNat 16 i) with
    | error e => rfl
    | ok b => exact ih { s with periph := s.periph.oamDmaWrite i b }

/-- A write does to a state with another CPU state what it does to the state. -/
theorem busWrite_putCpu (s c : State) (a : Word) (v : Byte) :
    busWrite (s.putCpu c) a v = (busWrite s a v).map (·.putCpu c) := by
  unfold busWrite
  cases hr : route a with
  | dmaTrigger =>
    simp only [dmaWrite, dmaCopy_putCpu]
    cases dmaCopy (ofBytes v 0) s (List.range 0xA0) <;> rfl
  | extRam i =>
    simp only [extRamAccess_putCpu]
    rcases s.extRamAccess a i with e | (_ | k) <;> rfl
  | _ => rfl

/-! ## What a write can change -/

/-- The DMA copy changes the peripheral and nothing else. -/
theorem dmaCopy_frame {src : Word} {l : List Nat} {s t : State} (h : dmaCopy src s l = .ok t) :
    t = { s with periph := t.periph } := by
  induction l generalizing s with
  | nil => cases h; rfl
  | cons i rest ih =>
    simp only [dmaCopy, dmaByte] at h
    cases hb : busRead s (src + BitVec.ofNat 16 i) with
    | error e => rw [hb] at h; cases h
    | ok b =>
      simp only [hb] at h
      exact ih (s := { s with periph := s.periph.oamDmaWrite i b }) h

/-- The DMA copy: the peripheral through the OAM writes in order, each of the byte a read gives at that moment
(R90). -/
theorem dmaCopy_ok {src : Word} {l : List Nat} {s t : State} (h : dmaCopy src s l = .ok t) :
    t = { s with periph := l.foldl (fun p i =>
      p.oamDmaWrite i (State.byteAt { s with periph := p } (src + BitVec.ofNat 16 i))) s.periph } := by
  induction l generalizing s with
  | nil => cases h; rfl
  | cons i rest ih =>
    simp only [dmaCopy, dmaByte] at h
    cases hb : busRead s (src + BitVec.ofNat 16 i) with
    | error e => rw [hb] at h; cases h
    | ok b =>
      have hv : State.byteAt s (src + BitVec.ofNat 16 i) = b := by simp [State.byteAt, hb]
      simp only [hb] at h
      simp only [List.foldl_cons, hv]
      exact ih h

/-- All a bus write can change: IF, IE, the MBC1 registers, the three RAMs, the peripheral, and the DMA's part of the
cycle counter. -/
theorem busWrite_frame {s t : State} {a : Word} {v : Byte} (h : busWrite s a v = .ok t) :
    t = { s with ifReg := t.ifReg, ieReg := t.ieReg, mbc := t.mbc, cartRam := t.cartRam, wram := t.wram
                 hram := t.hram, periph := t.periph, cycles := { s.cycles with dma := t.cycles.dma } } := by
  unfold busWrite at h
  cases hr : route a with
  | dmaTrigger =>
    simp only [hr, dmaWrite] at h
    cases hc : dmaCopy (ofBytes v 0) s (List.range 0xA0) with
    | error e => rw [hc] at h; cases h
    | ok u =>
      rw [hc] at h
      have hu := dmaCopy_frame hc
      cases h
      rw [hu]
      rfl
  | extRam i =>
    simp only [hr] at h
    cases he : s.extRamAccess a i with
    | error e => rw [he] at h; cases h
    | ok o => cases o <;> (rw [he] at h; cases h; rfl)
  | hole => simp [hr] at h
  | _ => simp only [hr] at h; cases h; rfl

section Fields

variable {s t : State} {a : Word} {v : Byte} (h : busWrite s a v = .ok t)

include h

theorem busWrite_regs : t.regs = s.regs := by rw [busWrite_frame h]
theorem busWrite_sp : t.sp = s.sp := by rw [busWrite_frame h]
theorem busWrite_pc : t.pc = s.pc := by rw [busWrite_frame h]
theorem busWrite_ime : t.ime = s.ime := by rw [busWrite_frame h]
theorem busWrite_halted : t.halted = s.halted := by rw [busWrite_frame h]
theorem busWrite_eiPending : t.eiPending = s.eiPending := by rw [busWrite_frame h]
theorem busWrite_rom : t.rom = s.rom := by rw [busWrite_frame h]
theorem busWrite_romSizeCode : t.romSizeCode = s.romSizeCode := by rw [busWrite_frame h]
theorem busWrite_ramSizeCode : t.ramSizeCode = s.ramSizeCode := by rw [busWrite_frame h]
theorem busWrite_params : t.params = s.params := by rw [busWrite_frame h]
theorem busWrite_instruction : t.cycles.instruction = s.cycles.instruction := by rw [busWrite_frame h]
theorem busWrite_dispatch : t.cycles.dispatch = s.cycles.dispatch := by rw [busWrite_frame h]

end Fields

/-! ## The cycles of the DMA -/

@[simp] theorem dmaStarts_nil : dmaStarts [] = 0 := rfl

theorem dmaStarts_cons (p : Word × Byte) (rest : List (Word × Byte)) :
    dmaStarts (p :: rest) = dmaStarts [p] + dmaStarts rest := by
  unfold dmaStarts
  rw [← List.countP_append]
  rfl

theorem dmaStarts_of_ne {a : Word} (h : a ≠ 0xFF46) (v : Byte) : dmaStarts [(a, v)] = 0 := by
  simpa [dmaStarts] using h

/-- A bus write charges `DMA_CYCLES` exactly where it starts a DMA (R92). -/
theorem busWrite_dma {s t : State} {a : Word} {v : Byte} (h : busWrite s a v = .ok t) :
    t.cycles.dma = s.cycles.dma + s.params.dmaCycles * dmaStarts [(a, v)] := by
  by_cases ha : a = 0xFF46
  · subst ha
    change dmaWrite s v = .ok t at h
    unfold dmaWrite at h
    cases hc : dmaCopy (ofBytes v 0) s (List.range 0xA0) with
    | error e => rw [hc] at h; cases h
    | ok u =>
      rw [hc] at h
      cases h
      rw [dmaCopy_frame hc]
      simp [dmaStarts, State.periphWrite, State.afterPeriph]
  · rw [dmaStarts_of_ne ha]
    have hr := route_inv a
    unfold busWrite at h
    cases hk : route a with
    | dmaTrigger => simp only [hk] at hr; exact absurd (BitVec.eq_of_toNat_eq hr) ha
    | extRam i =>
      simp only [hk] at h
      rcases he : s.extRamAccess a i with e | (_ | k) <;> (rw [he] at h; cases h <;> rfl)
    | hole => simp [hk] at h
    | _ => simp only [hk] at h; cases h; rfl

/-- The bus writes of a list charge `DMA_CYCLES` once for each that starts a DMA, and leave the parameters. -/
theorem storeAll_dma {l : List (Word × Byte)} {s t : State} (h : storeAll s l = .ok t) :
    t.cycles.dma = s.cycles.dma + s.params.dmaCycles * dmaStarts l ∧ t.params = s.params := by
  induction l generalizing s with
  | nil => cases h; simp
  | cons p rest ih =>
    simp only [storeAll] at h
    cases hb : busWrite s p.1 p.2 with
    | error e => rw [hb] at h; cases h
    | ok u =>
      simp only [hb] at h
      obtain ⟨hd, hp⟩ := ih h
      rw [busWrite_params hb] at hd hp
      refine ⟨?_, hp⟩
      rw [hd, busWrite_dma hb, dmaStarts_cons p rest, Nat.mul_add, Nat.add_assoc]

/-! ## The canonical form -/

theorem Periph.write_clean {p : Periph} (h : p.Clean) (a : Word) (v : Byte) : (p.write a v).1.Clean := by
  cases p with
  | free _ => trivial
  | reference cells => exact Memory.wf_write h _ _

theorem Periph.oamDmaWrite_clean {p : Periph} (h : p.Clean) (i : Nat) (v : Byte) : (p.oamDmaWrite i v).Clean := by
  cases p with
  | free _ => trivial
  | reference cells => exact Memory.wf_write h _ _

theorem Periph.update_clean {p : Periph} (h : p.Clean) (n : Nat) : (p.update n).1.Clean := by
  cases p with
  | free _ => trivial
  | reference _ => exact h

/-- The storages are clean whatever the rest of the state is. -/
theorem State.MemoryClean.congr {s t : State} (h : s.MemoryClean) (rom : t.rom = s.rom)
    (romSizeCode : t.romSizeCode = s.romSizeCode) (cartRam : t.cartRam = s.cartRam)
    (ramSizeCode : t.ramSizeCode = s.ramSizeCode) (wram : t.wram = s.wram) (hram : t.hram = s.hram)
    (periph : t.periph = s.periph) : t.MemoryClean := by
  constructor <;> simp only [State.romLength, State.ramLength, rom, romSizeCode, cartRam, ramSizeCode, wram, hram,
    periph]
  · exact h.rom_wf
  · exact h.rom_within
  · exact h.cartRam_wf
  · exact h.cartRam_within
  · exact h.wram_wf
  · exact h.wram_within
  · exact h.hram_wf
  · exact h.hram_within
  · exact h.periph_clean

theorem dmaCopy_clean {src : Word} {l : List Nat} {s t : State} (hp : s.periph.Clean) (h : dmaCopy src s l = .ok t) :
    t.periph.Clean := by
  induction l generalizing s with
  | nil => cases h; exact hp
  | cons i rest ih =>
    simp only [dmaCopy, dmaByte] at h
    cases hb : busRead s (src + BitVec.ofNat 16 i) with
    | error e => rw [hb] at h; cases h
    | ok b =>
      simp only [hb] at h
      exact ih (s := { s with periph := s.periph.oamDmaWrite i b }) (Periph.oamDmaWrite_clean hp i b) h

/-- The offset of an external RAM access lies in the RAM (R88). -/
theorem extRamAccess_lt {s : State} {a : Word} {i k : Nat} (h : s.extRamAccess a i = .ok (some k)) :
    k < s.ramLength := by
  unfold State.extRamAccess at h
  split_ifs at h with h1 h2 h3
  · simp at h
  · simp only [Except.ok.injEq, Option.some.injEq] at h
    exact h ▸ h3

/-- A bus write keeps every storage in canonical form and inside its size. -/
theorem busWrite_memoryClean {s t : State} {a : Word} {v : Byte} (hs : s.MemoryClean) (h : busWrite s a v = .ok t) :
    t.MemoryClean := by
  have hr := route_inv a
  unfold busWrite at h
  cases hk : route a with
  | dmaTrigger =>
    simp only [hk, dmaWrite] at h
    cases hc : dmaCopy (ofBytes v 0) s (List.range 0xA0) with
    | error e => rw [hc] at h; cases h
    | ok u =>
      rw [hc] at h
      have hu := dmaCopy_frame hc
      have hp := Periph.write_clean (dmaCopy_clean hs.periph_clean hc) 0xFF46 v
      cases h
      have hpc : u.periph.Clean := dmaCopy_clean hs.periph_clean hc
      have hu' : ({ s with periph := u.periph } : State).MemoryClean := { hs with periph_clean := hpc }
      rw [← hu] at hu'
      exact { hu' with periph_clean := hp }
  | extRam i =>
    simp only [hk] at h
    cases he : s.extRamAccess a i with
    | error e => rw [he] at h; cases h
    | ok o =>
      cases o with
      | none => rw [he] at h; cases h; exact hs
      | some k =>
        rw [he] at h
        cases h
        exact { hs with
          cartRam_wf := Memory.wf_write hs.cartRam_wf k v
          cartRam_within := Memory.within_write hs.cartRam_within (extRamAccess_lt he) v }
  | wram i =>
    simp only [hk] at h hr
    cases h
    exact { hs with
      wram_wf := Memory.wf_write hs.wram_wf i v
      wram_within := Memory.within_write hs.wram_within hr.1 v }
  | hram i =>
    simp only [hk] at h hr
    cases h
    exact { hs with
      hram_wf := Memory.wf_write hs.hram_wf i v
      hram_within := Memory.within_write hs.hram_within hr.2 v }
  | vram =>
    simp only [hk] at h
    cases h
    refine { hs with periph_clean := ?_ }
    simp only [State.gatedWrite, State.afterPeriph]
    split
    · exact hs.periph_clean
    · exact Periph.write_clean hs.periph_clean a v
  | oam =>
    simp only [hk] at h
    cases h
    refine { hs with periph_clean := ?_ }
    simp only [State.gatedWrite, State.afterPeriph]
    split
    · exact hs.periph_clean
    · exact Periph.write_clean hs.periph_clean a v
  | audio => simp only [hk] at h; cases h; exact { hs with periph_clean := Periph.write_clean hs.periph_clean a v }
  | display => simp only [hk] at h; cases h; exact { hs with periph_clean := Periph.write_clean hs.periph_clean a v }
  | hole => simp [hk] at h
  | unmapped => simp only [hk] at h; cases h; exact hs
  | intFlag => simp only [hk] at h; cases h; exact { hs with }
  | intEnable => simp only [hk] at h; cases h; exact { hs with }
  | romFixed i => simp only [hk] at h; cases h; exact { hs with }
  | romSwitch i => simp only [hk] at h; cases h; exact { hs with }

end Sys2Proof.Machine
end

