-- ==== Sys2Proof/Laws/Families.lean ====
section
/-! SUPPORT. The 512 arms of `exec` by family: one equation for each family of the opcode maps, and the case split
of `Instr` into its families, so that a proof about every instruction has one case for each family. -/

namespace Sys2Proof.Machine

/-! ## One equation for each family -/

theorem exec_nop (s : State) :
    exec .nop s = .next s := rfl

theorem exec_ldMNNSP (nn : Word) (s : State) :
    exec (.ldMNNSP nn) s = ldMemSP nn s := rfl

theorem exec_stop (n : Byte) (s : State) :
    exec (.stop n) s = .fault (.unmodelledStop (s.pc - 2)) := rfl

theorem exec_jrRel (e : Byte) (s : State) :
    exec (.jrRel e) s = .next (s.setPC (relTarget s.pc e)) := rfl

theorem exec_jrCond (cc : Cond) (e : Byte) (s : State) :
    exec (.jrCond cc e) s = jumpIf cc (relTarget s.pc e) s := by
  cases cc <;> rfl

theorem exec_ldRpNN (rr : Rp) (nn : Word) (s : State) :
    exec (.ldRpNN rr nn) s = ldPairImm rr nn s := by
  cases rr <;> rfl

theorem exec_addHLRp (rr : Rp) (s : State) :
    exec (.addHLRp rr) s = addHLPair rr s := by
  cases rr <;> rfl

theorem exec_ldMBCA (s : State) :
    exec .ldMBCA s = ldMemReg s.regs.bc .a s := rfl

theorem exec_ldMDEA (s : State) :
    exec .ldMDEA s = ldMemReg s.regs.de .a s := rfl

theorem exec_ldMHLIncA (s : State) :
    exec .ldMHLIncA s = ldMemHLA 1 s := rfl

theorem exec_ldMHLDecA (s : State) :
    exec .ldMHLDecA s = ldMemHLA (-1) s := rfl

theorem exec_ldAMBC (s : State) :
    exec .ldAMBC s = ldRegMem .a s.regs.bc s := rfl

theorem exec_ldAMDE (s : State) :
    exec .ldAMDE s = ldRegMem .a s.regs.de s := rfl

theorem exec_ldAMHLInc (s : State) :
    exec .ldAMHLInc s = ldAMemHL 1 s := rfl

theorem exec_ldAMHLDec (s : State) :
    exec .ldAMHLDec s = ldAMemHL (-1) s := rfl

theorem exec_incRp (rr : Rp) (s : State) :
    exec (.incRp rr) s = addToPair rr 1 s := by
  cases rr <;> rfl

theorem exec_decRp (rr : Rp) (s : State) :
    exec (.decRp rr) s = addToPair rr (-1) s := by
  cases rr <;> rfl

theorem exec_incSrc (src : Src8) (s : State) :
    exec (.incSrc src) s = incOperand src s := by
  rcases src with (_ | _ | _ | _ | _ | _ | _) | _ <;> rfl

theorem exec_decSrc (src : Src8) (s : State) :
    exec (.decSrc src) s = decOperand src s := by
  rcases src with (_ | _ | _ | _ | _ | _ | _) | _ <;> rfl

theorem exec_ldSrcN_reg (dst : R8) (n : Byte) (s : State) :
    exec (.ldSrcN (.reg dst) n) s = ldRegImm dst n s := by
  cases dst <;> rfl

theorem exec_ldSrcN_atHL (n : Byte) (s : State) :
    exec (.ldSrcN .atHL n) s = ldMemImm s.regs.hl n s := rfl

theorem exec_rlca (s : State) :
    exec .rlca s = rotateA .rlc s := rfl

theorem exec_rrca (s : State) :
    exec .rrca s = rotateA .rrc s := rfl

theorem exec_rla (s : State) :
    exec .rla s = rotateA .rl s := rfl

theorem exec_rra (s : State) :
    exec .rra s = rotateA .rr s := rfl

theorem exec_daa (s : State) :
    exec .daa s = .next (storeA s (daa8 s.regs.a (s.flag .n) (s.flag .h) (s.flag .cy))) := rfl

theorem exec_cpl (s : State) :
    exec .cpl s = .next ((s.setReg .a (~~~s.regs.a)).setFlags (s.flag .z) true true (s.flag .cy)) := rfl

theorem exec_scf (s : State) :
    exec .scf s = .next (s.setFlags (s.flag .z) false false true) := rfl

theorem exec_ccf (s : State) :
    exec .ccf s = .next (s.setFlags (s.flag .z) false false (!s.flag .cy)) := rfl

theorem exec_ldRR (dst src : R8) (s : State) :
    exec (.ldRR dst src) s = ldRegReg dst src s := by
  cases dst <;> cases src <;> rfl

theorem exec_ldRMHL (dst : R8) (s : State) :
    exec (.ldRMHL dst) s = ldRegMem dst s.regs.hl s := by
  cases dst <;> rfl

theorem exec_ldMHLR (src : R8) (s : State) :
    exec (.ldMHLR src) s = ldMemReg s.regs.hl src s := by
  cases src <;> rfl

theorem exec_halt (s : State) :
    exec .halt s = .next { s with halted := true } := rfl

theorem exec_aluSrc (op : AluOp) (src : Src8) (s : State) :
    exec (.aluSrc op src) s = aluWith op src s := by
  cases op <;> rcases src with (_ | _ | _ | _ | _ | _ | _) | _ <;> rfl

theorem exec_aluN (op : AluOp) (n : Byte) (s : State) :
    exec (.aluN op n) s = aluImm op n s := by
  cases op <;> rfl

theorem exec_retCond (cc : Cond) (s : State) :
    exec (.retCond cc) s = retIf cc s := by
  cases cc <;> rfl

theorem exec_ldhMNA (n : Byte) (s : State) :
    exec (.ldhMNA n) s = ldMemReg (highPage n) .a s := rfl

theorem exec_ldhAMN (n : Byte) (s : State) :
    exec (.ldhAMN n) s = ldRegMem .a (highPage n) s := rfl

theorem exec_ldMCA (s : State) :
    exec .ldMCA s = ldMemReg (highPage s.regs.c) .a s := rfl

theorem exec_ldAMC (s : State) :
    exec .ldAMC s = ldRegMem .a (highPage s.regs.c) s := rfl

theorem exec_ldMNNA (nn : Word) (s : State) :
    exec (.ldMNNA nn) s = ldMemReg nn .a s := rfl

theorem exec_ldAMNN (nn : Word) (s : State) :
    exec (.ldAMNN nn) s = ldRegMem .a nn s := rfl

theorem exec_addSPRel (e : Byte) (s : State) :
    exec (.addSPRel e) s = .next ((spPlusFlags s e).setSP (s.sp + sext16 e)) := rfl

theorem exec_ldHLSPRel (e : Byte) (s : State) :
    exec (.ldHLSPRel e) s = .next ((spPlusFlags s e).setHL (s.sp + sext16 e)) := rfl

theorem exec_popRp (rr : Rp2) (s : State) :
    exec (.popRp rr) s = popPair rr s := by
  cases rr <;> rfl

theorem exec_pushRp (rr : Rp2) (s : State) :
    exec (.pushRp rr) s = pushPair rr s := by
  cases rr <;> rfl

theorem exec_ret (s : State) :
    exec .ret s = done (returnFromCall s) := rfl

theorem exec_reti (s : State) :
    exec .reti s = done (returnFromInterrupt s) := rfl

theorem exec_jpHL (s : State) :
    exec .jpHL s = .next (s.setPC s.regs.hl) := rfl

theorem exec_ldSPHL (s : State) :
    exec .ldSPHL s = .next (s.setSP s.regs.hl) := rfl

theorem exec_jpCond (cc : Cond) (nn : Word) (s : State) :
    exec (.jpCond cc nn) s = jumpIf cc nn s := by
  cases cc <;> rfl

theorem exec_jpNN (nn : Word) (s : State) :
    exec (.jpNN nn) s = .next (s.setPC nn) := rfl

theorem exec_callCond (cc : Cond) (nn : Word) (s : State) :
    exec (.callCond cc nn) s = callIf cc nn s := by
  cases cc <;> rfl

theorem exec_callNN (nn : Word) (s : State) :
    exec (.callNN nn) s = done (callTo nn s) := rfl

theorem exec_rstY (y : Ix8) (s : State) :
    exec (.rstY y) s = done (callTo (rstTarget y) s) := by
  cases y <;> rfl

theorem exec_di (s : State) :
    exec .di s = disableInterrupts s := rfl

theorem exec_ei (s : State) :
    exec .ei s = enableInterrupts s := rfl

theorem exec_prefixCB (second : Byte) (s : State) :
    exec (.prefixCB second) s = cbPage second s := rfl

theorem exec_rotSrc (op : RotOp) (src : Src8) (s : State) :
    exec (.rotSrc op src) s = rotateOperand op src s := by
  cases op <;> rcases src with (_ | _ | _ | _ | _ | _ | _) | _ <;> rfl

theorem exec_bitSrc (b : Ix8) (src : Src8) (s : State) :
    exec (.bitSrc b src) s = testBit b src s := by
  cases b <;> rcases src with (_ | _ | _ | _ | _ | _ | _) | _ <;> rfl

theorem exec_resSrc (b : Ix8) (src : Src8) (s : State) :
    exec (.resSrc b src) s = clearBit b src s := by
  cases b <;> rcases src with (_ | _ | _ | _ | _ | _ | _) | _ <;> rfl

theorem exec_setSrc (b : Ix8) (src : Src8) (s : State) :
    exec (.setSrc b src) s = setBit b src s := by
  cases b <;> rcases src with (_ | _ | _ | _ | _ | _ | _) | _ <;> rfl

/-- An undefined opcode faults with its byte (R375). -/
theorem exec_undefined {i : Instr} {op : Byte} (h : i.undefinedByte = some op) (s : State) :
    exec i s = .fault (.undefinedOpcode op) := by
  cases i <;> simp only [Instr.undefinedByte, reduceCtorEq, Option.some.injEq] at h <;> subst h <;> rfl

/-! ## The case split into families -/

/-- A property of every instruction, from the property for each family of the opcode maps. -/
theorem Instr.byFamily {P : Instr → Prop}
    (nop : P .nop)
    (ldMNNSP : ∀ (nn : Word), P (.ldMNNSP nn))
    (stop : ∀ (n : Byte), P (.stop n))
    (jrRel : ∀ (e : Byte), P (.jrRel e))
    (jrCond : ∀ (cc : Cond) (e : Byte), P (.jrCond cc e))
    (ldRpNN : ∀ (rr : Rp) (nn : Word), P (.ldRpNN rr nn))
    (addHLRp : ∀ (rr : Rp), P (.addHLRp rr))
    (ldMBCA : P .ldMBCA)
    (ldMDEA : P .ldMDEA)
    (ldMHLIncA : P .ldMHLIncA)
    (ldMHLDecA : P .ldMHLDecA)
    (ldAMBC : P .ldAMBC)
    (ldAMDE : P .ldAMDE)
    (ldAMHLInc : P .ldAMHLInc)
    (ldAMHLDec : P .ldAMHLDec)
    (incRp : ∀ (rr : Rp), P (.incRp rr))
    (decRp : ∀ (rr : Rp), P (.decRp rr))
    (incSrc : ∀ (src : Src8), P (.incSrc src))
    (decSrc : ∀ (src : Src8), P (.decSrc src))
    (ldSrcN_reg : ∀ (dst : R8) (n : Byte), P (.ldSrcN (.reg dst) n))
    (ldSrcN_atHL : ∀ (n : Byte), P (.ldSrcN .atHL n))
    (rlca : P .rlca)
    (rrca : P .rrca)
    (rla : P .rla)
    (rra : P .rra)
    (daa : P .daa)
    (cpl : P .cpl)
    (scf : P .scf)
    (ccf : P .ccf)
    (ldRR : ∀ (dst : R8) (src : R8), P (.ldRR dst src))
    (ldRMHL : ∀ (dst : R8), P (.ldRMHL dst))
    (ldMHLR : ∀ (src : R8), P (.ldMHLR src))
    (halt : P .halt)
    (aluSrc : ∀ (op : AluOp) (src : Src8), P (.aluSrc op src))
    (aluN : ∀ (op : AluOp) (n : Byte), P (.aluN op n))
    (retCond : ∀ (cc : Cond), P (.retCond cc))
    (ldhMNA : ∀ (n : Byte), P (.ldhMNA n))
    (ldhAMN : ∀ (n : Byte), P (.ldhAMN n))
    (ldMCA : P .ldMCA)
    (ldAMC : P .ldAMC)
    (ldMNNA : ∀ (nn : Word), P (.ldMNNA nn))
    (ldAMNN : ∀ (nn : Word), P (.ldAMNN nn))
    (addSPRel : ∀ (e : Byte), P (.addSPRel e))
    (ldHLSPRel : ∀ (e : Byte), P (.ldHLSPRel e))
    (popRp : ∀ (rr : Rp2), P (.popRp rr))
    (pushRp : ∀ (rr : Rp2), P (.pushRp rr))
    (ret : P .ret)
    (reti : P .reti)
    (jpHL : P .jpHL)
    (ldSPHL : P .ldSPHL)
    (jpCond : ∀ (cc : Cond) (nn : Word), P (.jpCond cc nn))
    (jpNN : ∀ (nn : Word), P (.jpNN nn))
    (callCond : ∀ (cc : Cond) (nn : Word), P (.callCond cc nn))
    (callNN : ∀ (nn : Word), P (.callNN nn))
    (rstY : ∀ (y : Ix8), P (.rstY y))
    (di : P .di)
    (ei : P .ei)
    (prefixCB : ∀ (second : Byte), P (.prefixCB second))
    (rotSrc : ∀ (op : RotOp) (src : Src8), P (.rotSrc op src))
    (bitSrc : ∀ (b : Ix8) (src : Src8), P (.bitSrc b src))
    (resSrc : ∀ (b : Ix8) (src : Src8), P (.resSrc b src))
    (setSrc : ∀ (b : Ix8) (src : Src8), P (.setSrc b src))
    (undefined : ∀ (i : Instr) (op : Byte), i.undefinedByte = some op → P i)
    (i : Instr) : P i := by
  cases i with
  | ldBCNN nn => exact ldRpNN .bc nn
  | ldBN n => exact ldSrcN_reg .b n
  | ldMNNSP nn => exact ldMNNSP nn
  | ldCN n => exact ldSrcN_reg .c n
  | stop n => exact stop n
  | ldDENN nn => exact ldRpNN .de nn
  | ldDN n => exact ldSrcN_reg .d n
  | jrRel e => exact jrRel e
  | ldEN n => exact ldSrcN_reg .e n
  | jrNZRel e => exact jrCond .nz e
  | ldHLNN nn => exact ldRpNN .hl nn
  | ldHN n => exact ldSrcN_reg .h n
  | jrZRel e => exact jrCond .z e
  | ldLN n => exact ldSrcN_reg .l n
  | jrNCRel e => exact jrCond .nc e
  | ldSPNN nn => exact ldRpNN .sp nn
  | ldMHLN n => exact ldSrcN_atHL n
  | jrCRel e => exact jrCond .c e
  | ldAN n => exact ldSrcN_reg .a n
  | jpNZNN nn => exact jpCond .nz nn
  | jpNN nn => exact jpNN nn
  | callNZNN nn => exact callCond .nz nn
  | addAN n => exact aluN .add n
  | jpZNN nn => exact jpCond .z nn
  | prefixCB second => exact prefixCB second
  | callZNN nn => exact callCond .z nn
  | callNN nn => exact callNN nn
  | adcAN n => exact aluN .adc n
  | jpNCNN nn => exact jpCond .nc nn
  | callNCNN nn => exact callCond .nc nn
  | subN n => exact aluN .sub n
  | jpCNN nn => exact jpCond .c nn
  | callCNN nn => exact callCond .c nn
  | sbcAN n => exact aluN .sbc n
  | ldhMNA n => exact ldhMNA n
  | andN n => exact aluN .and n
  | addSPRel e => exact addSPRel e
  | ldMNNA nn => exact ldMNNA nn
  | xorN n => exact aluN .xor n
  | ldhAMN n => exact ldhAMN n
  | orN n => exact aluN .or n
  | ldHLSPRel e => exact ldHLSPRel e
  | ldAMNN nn => exact ldAMNN nn
  | cpN n => exact aluN .cp n
  | nop => exact nop
  | ldMBCA => exact ldMBCA
  | incBC => exact incRp .bc
  | incB => exact incSrc (.reg .b)
  | decB => exact decSrc (.reg .b)
  | rlca => exact rlca
  | addHLBC => exact addHLRp .bc
  | ldAMBC => exact ldAMBC
  | decBC => exact decRp .bc
  | incC => exact incSrc (.reg .c)
  | decC => exact decSrc (.reg .c)
  | rrca => exact rrca
  | ldMDEA => exact ldMDEA
  | incDE => exact incRp .de
  | incD => exact incSrc (.reg .d)
  | decD => exact decSrc (.reg .d)
  | rla => exact rla
  | addHLDE => exact addHLRp .de
  | ldAMDE => exact ldAMDE
  | decDE => exact decRp .de
  | incE => exact incSrc (.reg .e)
  | decE => exact decSrc (.reg .e)
  | rra => exact rra
  | ldMHLIncA => exact ldMHLIncA
  | incHL => exact incRp .hl
  | incH => exact incSrc (.reg .h)
  | decH => exact decSrc (.reg .h)
  | daa => exact daa
  | addHLHL => exact addHLRp .hl
  | ldAMHLInc => exact ldAMHLInc
  | decHL => exact decRp .hl
  | incL => exact incSrc (.reg .l)
  | decL => exact decSrc (.reg .l)
  | cpl => exact cpl
  | ldMHLDecA => exact ldMHLDecA
  | incSP => exact incRp .sp
  | incMHL => exact incSrc .atHL
  | decMHL => exact decSrc .atHL
  | scf => exact scf
  | addHLSP => exact addHLRp .sp
  | ldAMHLDec => exact ldAMHLDec
  | decSP => exact decRp .sp
  | incA => exact incSrc (.reg .a)
  | decA => exact decSrc (.reg .a)
  | ccf => exact ccf
  | ldBB => exact ldRR .b .b
  | ldBC => exact ldRR .b .c
  | ldBD => exact ldRR .b .d
  | ldBE => exact ldRR .b .e
  | ldBH => exact ldRR .b .h
  | ldBL => exact ldRR .b .l
  | ldBMHL => exact ldRMHL .b
  | ldBA => exact ldRR .b .a
  | ldCB => exact ldRR .c .b
  | ldCC => exact ldRR .c .c
  | ldCD => exact ldRR .c .d
  | ldCE => exact ldRR .c .e
  | ldCH => exact ldRR .c .h
  | ldCL => exact ldRR .c .l
  | ldCMHL => exact ldRMHL .c
  | ldCA => exact ldRR .c .a
  | ldDB => exact ldRR .d .b
  | ldDC => exact ldRR .d .c
  | ldDD => exact ldRR .d .d
  | ldDE => exact ldRR .d .e
  | ldDH => exact ldRR .d .h
  | ldDL => exact ldRR .d .l
  | ldDMHL => exact ldRMHL .d
  | ldDA => exact ldRR .d .a
  | ldEB => exact ldRR .e .b
  | ldEC => exact ldRR .e .c
  | ldED => exact ldRR .e .d
  | ldEE => exact ldRR .e .e
  | ldEH => exact ldRR .e .h
  | ldEL => exact ldRR .e .l
  | ldEMHL => exact ldRMHL .e
  | ldEA => exact ldRR .e .a
  | ldHB => exact ldRR .h .b
  | ldHC => exact ldRR .h .c
  | ldHD => exact ldRR .h .d
  | ldHE => exact ldRR .h .e
  | ldHH => exact ldRR .h .h
  | ldHL => exact ldRR .h .l
  | ldHMHL => exact ldRMHL .h
  | ldHA => exact ldRR .h .a
  | ldLB => exact ldRR .l .b
  | ldLC => exact ldRR .l .c
  | ldLD => exact ldRR .l .d
  | ldLE => exact ldRR .l .e
  | ldLH => exact ldRR .l .h
  | ldLL => exact ldRR .l .l
  | ldLMHL => exact ldRMHL .l
  | ldLA => exact ldRR .l .a
  | ldMHLB => exact ldMHLR .b
  | ldMHLC => exact ldMHLR .c
  | ldMHLD => exact ldMHLR .d
  | ldMHLE => exact ldMHLR .e
  | ldMHLH => exact ldMHLR .h
  | ldMHLL => exact ldMHLR .l
  | halt => exact halt
  | ldMHLA => exact ldMHLR .a
  | ldAB => exact ldRR .a .b
  | ldAC => exact ldRR .a .c
  | ldAD => exact ldRR .a .d
  | ldAE => exact ldRR .a .e
  | ldAH => exact ldRR .a .h
  | ldAL => exact ldRR .a .l
  | ldAMHL => exact ldRMHL .a
  | ldAA => exact ldRR .a .a
  | addAB => exact aluSrc .add (.reg .b)
  | addAC => exact aluSrc .add (.reg .c)
  | addAD => exact aluSrc .add (.reg .d)
  | addAE => exact aluSrc .add (.reg .e)
  | addAH => exact aluSrc .add (.reg .h)
  | addAL => exact aluSrc .add (.reg .l)
  | addAMHL => exact aluSrc .add .atHL
  | addAA => exact aluSrc .add (.reg .a)
  | adcAB => exact aluSrc .adc (.reg .b)
  | adcAC => exact aluSrc .adc (.reg .c)
  | adcAD => exact aluSrc .adc (.reg .d)
  | adcAE => exact aluSrc .adc (.reg .e)
  | adcAH => exact aluSrc .adc (.reg .h)
  | adcAL => exact aluSrc .adc (.reg .l)
  | adcAMHL => exact aluSrc .adc .atHL
  | adcAA => exact aluSrc .adc (.reg .a)
  | subB => exact aluSrc .sub (.reg .b)
  | subC => exact aluSrc .sub (.reg .c)
  | subD => exact aluSrc .sub (.reg .d)
  | subE => exact aluSrc .sub (.reg .e)
  | subH => exact aluSrc .sub (.reg .h)
  | subL => exact aluSrc .sub (.reg .l)
  | subMHL => exact aluSrc .sub .atHL
  | subA => exact aluSrc .sub (.reg .a)
  | sbcAB => exact aluSrc .sbc (.reg .b)
  | sbcAC => exact aluSrc .sbc (.reg .c)
  | sbcAD => exact aluSrc .sbc (.reg .d)
  | sbcAE => exact aluSrc .sbc (.reg .e)
  | sbcAH => exact aluSrc .sbc (.reg .h)
  | sbcAL => exact aluSrc .sbc (.reg .l)
  | sbcAMHL => exact aluSrc .sbc .atHL
  | sbcAA => exact aluSrc .sbc (.reg .a)
  | andB => exact aluSrc .and (.reg .b)
  | andC => exact aluSrc .and (.reg .c)
  | andD => exact aluSrc .and (.reg .d)
  | andE => exact aluSrc .and (.reg .e)
  | andH => exact aluSrc .and (.reg .h)
  | andL => exact aluSrc .and (.reg .l)
  | andMHL => exact aluSrc .and .atHL
  | andA => exact aluSrc .and (.reg .a)
  | xorB => exact aluSrc .xor (.reg .b)
  | xorC => exact aluSrc .xor (.reg .c)
  | xorD => exact aluSrc .xor (.reg .d)
  | xorE => exact aluSrc .xor (.reg .e)
  | xorH => exact aluSrc .xor (.reg .h)
  | xorL => exact aluSrc .xor (.reg .l)
  | xorMHL => exact aluSrc .xor .atHL
  | xorA => exact aluSrc .xor (.reg .a)
  | orB => exact aluSrc .or (.reg .b)
  | orC => exact aluSrc .or (.reg .c)
  | orD => exact aluSrc .or (.reg .d)
  | orE => exact aluSrc .or (.reg .e)
  | orH => exact aluSrc .or (.reg .h)
  | orL => exact aluSrc .or (.reg .l)
  | orMHL => exact aluSrc .or .atHL
  | orA => exact aluSrc .or (.reg .a)
  | cpB => exact aluSrc .cp (.reg .b)
  | cpC => exact aluSrc .cp (.reg .c)
  | cpD => exact aluSrc .cp (.reg .d)
  | cpE => exact aluSrc .cp (.reg .e)
  | cpH => exact aluSrc .cp (.reg .h)
  | cpL => exact aluSrc .cp (.reg .l)
  | cpMHL => exact aluSrc .cp .atHL
  | cpA => exact aluSrc .cp (.reg .a)
  | retNZ => exact retCond .nz
  | popBC => exact popRp .bc
  | pushBC => exact pushRp .bc
  | rst00 => exact rstY .i0
  | retZ => exact retCond .z
  | ret => exact ret
  | rst08 => exact rstY .i1
  | retNC => exact retCond .nc
  | popDE => exact popRp .de
  | undefD3 => exact undefined _ _ rfl
  | pushDE => exact pushRp .de
  | rst10 => exact rstY .i2
  | retC => exact retCond .c
  | reti => exact reti
  | undefDB => exact undefined _ _ rfl
  | undefDD => exact undefined _ _ rfl
  | rst18 => exact rstY .i3
  | popHL => exact popRp .hl
  | ldMCA => exact ldMCA
  | undefE3 => exact undefined _ _ rfl
  | undefE4 => exact undefined _ _ rfl
  | pushHL => exact pushRp .hl
  | rst20 => exact rstY .i4
  | jpHL => exact jpHL
  | undefEB => exact undefined _ _ rfl
  | undefEC => exact undefined _ _ rfl
  | undefED => exact undefined _ _ rfl
  | rst28 => exact rstY .i5
  | popAF => exact popRp .af
  | ldAMC => exact ldAMC
  | di => exact di
  | undefF4 => exact undefined _ _ rfl
  | pushAF => exact pushRp .af
  | rst30 => exact rstY .i6
  | ldSPHL => exact ldSPHL
  | ei => exact ei
  | undefFC => exact undefined _ _ rfl
  | undefFD => exact undefined _ _ rfl
  | rst38 => exact rstY .i7
  | rlcB => exact rotSrc .rlc (.reg .b)
  | rlcC => exact rotSrc .rlc (.reg .c)
  | rlcD => exact rotSrc .rlc (.reg .d)
  | rlcE => exact rotSrc .rlc (.reg .e)
  | rlcH => exact rotSrc .rlc (.reg .h)
  | rlcL => exact rotSrc .rlc (.reg .l)
  | rlcMHL => exact rotSrc .rlc .atHL
  | rlcA => exact rotSrc .rlc (.reg .a)
  | rrcB => exact rotSrc .rrc (.reg .b)
  | rrcC => exact rotSrc .rrc (.reg .c)
  | rrcD => exact rotSrc .rrc (.reg .d)
  | rrcE => exact rotSrc .rrc (.reg .e)
  | rrcH => exact rotSrc .rrc (.reg .h)
  | rrcL => exact rotSrc .rrc (.reg .l)
  | rrcMHL => exact rotSrc .rrc .atHL
  | rrcA => exact rotSrc .rrc (.reg .a)
  | rlB => exact rotSrc .rl (.reg .b)
  | rlC => exact rotSrc .rl (.reg .c)
  | rlD => exact rotSrc .rl (.reg .d)
  | rlE => exact rotSrc .rl (.reg .e)
  | rlH => exact rotSrc .rl (.reg .h)
  | rlL => exact rotSrc .rl (.reg .l)
  | rlMHL => exact rotSrc .rl .atHL
  | rlA => exact rotSrc .rl (.reg .a)
  | rrB => exact rotSrc .rr (.reg .b)
  | rrC => exact rotSrc .rr (.reg .c)
  | rrD => exact rotSrc .rr (.reg .d)
  | rrE => exact rotSrc .rr (.reg .e)
  | rrH => exact rotSrc .rr (.reg .h)
  | rrL => exact rotSrc .rr (.reg .l)
  | rrMHL => exact rotSrc .rr .atHL
  | rrA => exact rotSrc .rr (.reg .a)
  | slaB => exact rotSrc .sla (.reg .b)
  | slaC => exact rotSrc .sla (.reg .c)
  | slaD => exact rotSrc .sla (.reg .d)
  | slaE => exact rotSrc .sla (.reg .e)
  | slaH => exact rotSrc .sla (.reg .h)
  | slaL => exact rotSrc .sla (.reg .l)
  | slaMHL => exact rotSrc .sla .atHL
  | slaA => exact rotSrc .sla (.reg .a)
  | sraB => exact rotSrc .sra (.reg .b)
  | sraC => exact rotSrc .sra (.reg .c)
  | sraD => exact rotSrc .sra (.reg .d)
  | sraE => exact rotSrc .sra (.reg .e)
  | sraH => exact rotSrc .sra (.reg .h)
  | sraL => exact rotSrc .sra (.reg .l)
  | sraMHL => exact rotSrc .sra .atHL
  | sraA => exact rotSrc .sra (.reg .a)
  | swapB => exact rotSrc .swap (.reg .b)
  | swapC => exact rotSrc .swap (.reg .c)
  | swapD => exact rotSrc .swap (.reg .d)
  | swapE => exact rotSrc .swap (.reg .e)
  | swapH => exact rotSrc .swap (.reg .h)
  | swapL => exact rotSrc .swap (.reg .l)
  | swapMHL => exact rotSrc .swap .atHL
  | swapA => exact rotSrc .swap (.reg .a)
  | srlB => exact rotSrc .srl (.reg .b)
  | srlC => exact rotSrc .srl (.reg .c)
  | srlD => exact rotSrc .srl (.reg .d)
  | srlE => exact rotSrc .srl (.reg .e)
  | srlH => exact rotSrc .srl (.reg .h)
  | srlL => exact rotSrc .srl (.reg .l)
  | srlMHL => exact rotSrc .srl .atHL
  | srlA => exact rotSrc .srl (.reg .a)
  | bit0B => exact bitSrc .i0 (.reg .b)
  | bit0C => exact bitSrc .i0 (.reg .c)
  | bit0D => exact bitSrc .i0 (.reg .d)
  | bit0E => exact bitSrc .i0 (.reg .e)
  | bit0H => exact bitSrc .i0 (.reg .h)
  | bit0L => exact bitSrc .i0 (.reg .l)
  | bit0MHL => exact bitSrc .i0 .atHL
  | bit0A => exact bitSrc .i0 (.reg .a)
  | bit1B => exact bitSrc .i1 (.reg .b)
  | bit1C => exact bitSrc .i1 (.reg .c)
  | bit1D => exact bitSrc .i1 (.reg .d)
  | bit1E => exact bitSrc .i1 (.reg .e)
  | bit1H => exact bitSrc .i1 (.reg .h)
  | bit1L => exact bitSrc .i1 (.reg .l)
  | bit1MHL => exact bitSrc .i1 .atHL
  | bit1A => exact bitSrc .i1 (.reg .a)
  | bit2B => exact bitSrc .i2 (.reg .b)
  | bit2C => exact bitSrc .i2 (.reg .c)
  | bit2D => exact bitSrc .i2 (.reg .d)
  | bit2E => exact bitSrc .i2 (.reg .e)
  | bit2H => exact bitSrc .i2 (.reg .h)
  | bit2L => exact bitSrc .i2 (.reg .l)
  | bit2MHL => exact bitSrc .i2 .atHL
  | bit2A => exact bitSrc .i2 (.reg .a)
  | bit3B => exact bitSrc .i3 (.reg .b)
  | bit3C => exact bitSrc .i3 (.reg .c)
  | bit3D => exact bitSrc .i3 (.reg .d)
  | bit3E => exact bitSrc .i3 (.reg .e)
  | bit3H => exact bitSrc .i3 (.reg .h)
  | bit3L => exact bitSrc .i3 (.reg .l)
  | bit3MHL => exact bitSrc .i3 .atHL
  | bit3A => exact bitSrc .i3 (.reg .a)
  | bit4B => exact bitSrc .i4 (.reg .b)
  | bit4C => exact bitSrc .i4 (.reg .c)
  | bit4D => exact bitSrc .i4 (.reg .d)
  | bit4E => exact bitSrc .i4 (.reg .e)
  | bit4H => exact bitSrc .i4 (.reg .h)
  | bit4L => exact bitSrc .i4 (.reg .l)
  | bit4MHL => exact bitSrc .i4 .atHL
  | bit4A => exact bitSrc .i4 (.reg .a)
  | bit5B => exact bitSrc .i5 (.reg .b)
  | bit5C => exact bitSrc .i5 (.reg .c)
  | bit5D => exact bitSrc .i5 (.reg .d)
  | bit5E => exact bitSrc .i5 (.reg .e)
  | bit5H => exact bitSrc .i5 (.reg .h)
  | bit5L => exact bitSrc .i5 (.reg .l)
  | bit5MHL => exact bitSrc .i5 .atHL
  | bit5A => exact bitSrc .i5 (.reg .a)
  | bit6B => exact bitSrc .i6 (.reg .b)
  | bit6C => exact bitSrc .i6 (.reg .c)
  | bit6D => exact bitSrc .i6 (.reg .d)
  | bit6E => exact bitSrc .i6 (.reg .e)
  | bit6H => exact bitSrc .i6 (.reg .h)
  | bit6L => exact bitSrc .i6 (.reg .l)
  | bit6MHL => exact bitSrc .i6 .atHL
  | bit6A => exact bitSrc .i6 (.reg .a)
  | bit7B => exact bitSrc .i7 (.reg .b)
  | bit7C => exact bitSrc .i7 (.reg .c)
  | bit7D => exact bitSrc .i7 (.reg .d)
  | bit7E => exact bitSrc .i7 (.reg .e)
  | bit7H => exact bitSrc .i7 (.reg .h)
  | bit7L => exact bitSrc .i7 (.reg .l)
  | bit7MHL => exact bitSrc .i7 .atHL
  | bit7A => exact bitSrc .i7 (.reg .a)
  | res0B => exact resSrc .i0 (.reg .b)
  | res0C => exact resSrc .i0 (.reg .c)
  | res0D => exact resSrc .i0 (.reg .d)
  | res0E => exact resSrc .i0 (.reg .e)
  | res0H => exact resSrc .i0 (.reg .h)
  | res0L => exact resSrc .i0 (.reg .l)
  | res0MHL => exact resSrc .i0 .atHL
  | res0A => exact resSrc .i0 (.reg .a)
  | res1B => exact resSrc .i1 (.reg .b)
  | res1C => exact resSrc .i1 (.reg .c)
  | res1D => exact resSrc .i1 (.reg .d)
  | res1E => exact resSrc .i1 (.reg .e)
  | res1H => exact resSrc .i1 (.reg .h)
  | res1L => exact resSrc .i1 (.reg .l)
  | res1MHL => exact resSrc .i1 .atHL
  | res1A => exact resSrc .i1 (.reg .a)
  | res2B => exact resSrc .i2 (.reg .b)
  | res2C => exact resSrc .i2 (.reg .c)
  | res2D => exact resSrc .i2 (.reg .d)
  | res2E => exact resSrc .i2 (.reg .e)
  | res2H => exact resSrc .i2 (.reg .h)
  | res2L => exact resSrc .i2 (.reg .l)
  | res2MHL => exact resSrc .i2 .atHL
  | res2A => exact resSrc .i2 (.reg .a)
  | res3B => exact resSrc .i3 (.reg .b)
  | res3C => exact resSrc .i3 (.reg .c)
  | res3D => exact resSrc .i3 (.reg .d)
  | res3E => exact resSrc .i3 (.reg .e)
  | res3H => exact resSrc .i3 (.reg .h)
  | res3L => exact resSrc .i3 (.reg .l)
  | res3MHL => exact resSrc .i3 .atHL
  | res3A => exact resSrc .i3 (.reg .a)
  | res4B => exact resSrc .i4 (.reg .b)
  | res4C => exact resSrc .i4 (.reg .c)
  | res4D => exact resSrc .i4 (.reg .d)
  | res4E => exact resSrc .i4 (.reg .e)
  | res4H => exact resSrc .i4 (.reg .h)
  | res4L => exact resSrc .i4 (.reg .l)
  | res4MHL => exact resSrc .i4 .atHL
  | res4A => exact resSrc .i4 (.reg .a)
  | res5B => exact resSrc .i5 (.reg .b)
  | res5C => exact resSrc .i5 (.reg .c)
  | res5D => exact resSrc .i5 (.reg .d)
  | res5E => exact resSrc .i5 (.reg .e)
  | res5H => exact resSrc .i5 (.reg .h)
  | res5L => exact resSrc .i5 (.reg .l)
  | res5MHL => exact resSrc .i5 .atHL
  | res5A => exact resSrc .i5 (.reg .a)
  | res6B => exact resSrc .i6 (.reg .b)
  | res6C => exact resSrc .i6 (.reg .c)
  | res6D => exact resSrc .i6 (.reg .d)
  | res6E => exact resSrc .i6 (.reg .e)
  | res6H => exact resSrc .i6 (.reg .h)
  | res6L => exact resSrc .i6 (.reg .l)
  | res6MHL => exact resSrc .i6 .atHL
  | res6A => exact resSrc .i6 (.reg .a)
  | res7B => exact resSrc .i7 (.reg .b)
  | res7C => exact resSrc .i7 (.reg .c)
  | res7D => exact resSrc .i7 (.reg .d)
  | res7E => exact resSrc .i7 (.reg .e)
  | res7H => exact resSrc .i7 (.reg .h)
  | res7L => exact resSrc .i7 (.reg .l)
  | res7MHL => exact resSrc .i7 .atHL
  | res7A => exact resSrc .i7 (.reg .a)
  | set0B => exact setSrc .i0 (.reg .b)
  | set0C => exact setSrc .i0 (.reg .c)
  | set0D => exact setSrc .i0 (.reg .d)
  | set0E => exact setSrc .i0 (.reg .e)
  | set0H => exact setSrc .i0 (.reg .h)
  | set0L => exact setSrc .i0 (.reg .l)
  | set0MHL => exact setSrc .i0 .atHL
  | set0A => exact setSrc .i0 (.reg .a)
  | set1B => exact setSrc .i1 (.reg .b)
  | set1C => exact setSrc .i1 (.reg .c)
  | set1D => exact setSrc .i1 (.reg .d)
  | set1E => exact setSrc .i1 (.reg .e)
  | set1H => exact setSrc .i1 (.reg .h)
  | set1L => exact setSrc .i1 (.reg .l)
  | set1MHL => exact setSrc .i1 .atHL
  | set1A => exact setSrc .i1 (.reg .a)
  | set2B => exact setSrc .i2 (.reg .b)
  | set2C => exact setSrc .i2 (.reg .c)
  | set2D => exact setSrc .i2 (.reg .d)
  | set2E => exact setSrc .i2 (.reg .e)
  | set2H => exact setSrc .i2 (.reg .h)
  | set2L => exact setSrc .i2 (.reg .l)
  | set2MHL => exact setSrc .i2 .atHL
  | set2A => exact setSrc .i2 (.reg .a)
  | set3B => exact setSrc .i3 (.reg .b)
  | set3C => exact setSrc .i3 (.reg .c)
  | set3D => exact setSrc .i3 (.reg .d)
  | set3E => exact setSrc .i3 (.reg .e)
  | set3H => exact setSrc .i3 (.reg .h)
  | set3L => exact setSrc .i3 (.reg .l)
  | set3MHL => exact setSrc .i3 .atHL
  | set3A => exact setSrc .i3 (.reg .a)
  | set4B => exact setSrc .i4 (.reg .b)
  | set4C => exact setSrc .i4 (.reg .c)
  | set4D => exact setSrc .i4 (.reg .d)
  | set4E => exact setSrc .i4 (.reg .e)
  | set4H => exact setSrc .i4 (.reg .h)
  | set4L => exact setSrc .i4 (.reg .l)
  | set4MHL => exact setSrc .i4 .atHL
  | set4A => exact setSrc .i4 (.reg .a)
  | set5B => exact setSrc .i5 (.reg .b)
  | set5C => exact setSrc .i5 (.reg .c)
  | set5D => exact setSrc .i5 (.reg .d)
  | set5E => exact setSrc .i5 (.reg .e)
  | set5H => exact setSrc .i5 (.reg .h)
  | set5L => exact setSrc .i5 (.reg .l)
  | set5MHL => exact setSrc .i5 .atHL
  | set5A => exact setSrc .i5 (.reg .a)
  | set6B => exact setSrc .i6 (.reg .b)
  | set6C => exact setSrc .i6 (.reg .c)
  | set6D => exact setSrc .i6 (.reg .d)
  | set6E => exact setSrc .i6 (.reg .e)
  | set6H => exact setSrc .i6 (.reg .h)
  | set6L => exact setSrc .i6 (.reg .l)
  | set6MHL => exact setSrc .i6 .atHL
  | set6A => exact setSrc .i6 (.reg .a)
  | set7B => exact setSrc .i7 (.reg .b)
  | set7C => exact setSrc .i7 (.reg .c)
  | set7D => exact setSrc .i7 (.reg .d)
  | set7E => exact setSrc .i7 (.reg .e)
  | set7H => exact setSrc .i7 (.reg .h)
  | set7L => exact setSrc .i7 (.reg .l)
  | set7MHL => exact setSrc .i7 .atHL
  | set7A => exact setSrc .i7 (.reg .a)

end Sys2Proof.Machine
end

