-- ==== Sys2Proof/Laws/Flags.lean ====
section
/-! SUPPORT. The laws of the flag register: what a flag reads as after flags are written, and that the low nibble of
F is never touched by a flag write (spec/10_state.md R32, R33). -/

namespace Sys2Proof.Machine

/-- A flag reads as written, and a write of another flag leaves it (R33). -/
theorem getFlag_setFlag (f : Byte) (g k : Flag) (v : Bool) :
    getFlag (setFlag f g v) k = if k = g then v else getFlag f k := by
  cases g <;> cases k <;> cases v <;> simp [getFlag, setFlag, Flag.bit]

@[simp] theorem getFlag_withFlags_z (f : Byte) (z n h cy : Bool) : getFlag (withFlags f z n h cy) .z = z := by
  simp [withFlags, getFlag_setFlag]

@[simp] theorem getFlag_withFlags_n (f : Byte) (z n h cy : Bool) : getFlag (withFlags f z n h cy) .n = n := by
  simp [withFlags, getFlag_setFlag]

@[simp] theorem getFlag_withFlags_h (f : Byte) (z n h cy : Bool) : getFlag (withFlags f z n h cy) .h = h := by
  simp [withFlags, getFlag_setFlag]

@[simp] theorem getFlag_withFlags_cy (f : Byte) (z n h cy : Bool) : getFlag (withFlags f z n h cy) .cy = cy := by
  simp [withFlags, getFlag_setFlag]

/-- A flag write leaves bits 3..0 as they were (R32). -/
@[simp] theorem setFlag_lowNibble (f : Byte) (g : Flag) (v : Bool) : setFlag f g v &&& 0x0F = f &&& 0x0F := by
  cases g <;> cases v <;> simp only [setFlag, Flag.bit, if_true, if_false, Bool.false_eq_true] <;>
    apply BitVec.eq_of_getLsbD_eq <;> intro i hi <;>
    (have : i = 0 ∨ i = 1 ∨ i = 2 ∨ i = 3 ∨ i = 4 ∨ i = 5 ∨ i = 6 ∨ i = 7 := by omega) <;>
    rcases this with rfl | rfl | rfl | rfl | rfl | rfl | rfl | rfl <;> simp

/-- The write of the four flags leaves bits 3..0 as they were (R32). -/
@[simp] theorem withFlags_lowNibble (f : Byte) (z n h cy : Bool) : withFlags f z n h cy &&& 0x0F = f &&& 0x0F := by
  simp only [withFlags, setFlag_lowNibble]

/-- Masking with `0xF0` clears the low nibble (R32). -/
@[simp] theorem maskF0_lowNibble (v : Byte) : v &&& 0xF0 &&& 0x0F = 0 := by
  rw [BitVec.and_assoc]
  simp

end Sys2Proof.Machine
end

