-- ==== Sys2Proof/Laws/State.lean ====
section
/-! SUPPORT. What each named update of the state does to each field: one lemma per field per update. -/

namespace Sys2Proof.Machine

/-! ## setReg -/

@[simp] theorem State.setReg_regs (s : State) (r : R8) (v : Byte) : (s.setReg r v).regs = s.regs.set r v := rfl
@[simp] theorem State.setReg_sp (s : State) (r : R8) (v : Byte) : (s.setReg r v).sp = s.sp := rfl
@[simp] theorem State.setReg_pc (s : State) (r : R8) (v : Byte) : (s.setReg r v).pc = s.pc := rfl
@[simp] theorem State.setReg_ime (s : State) (r : R8) (v : Byte) : (s.setReg r v).ime = s.ime := rfl
@[simp] theorem State.setReg_halted (s : State) (r : R8) (v : Byte) : (s.setReg r v).halted = s.halted := rfl
@[simp] theorem State.setReg_eiPending (s : State) (r : R8) (v : Byte) : (s.setReg r v).eiPending = s.eiPending := rfl
@[simp] theorem State.setReg_ifReg (s : State) (r : R8) (v : Byte) : (s.setReg r v).ifReg = s.ifReg := rfl
@[simp] theorem State.setReg_ieReg (s : State) (r : R8) (v : Byte) : (s.setReg r v).ieReg = s.ieReg := rfl
@[simp] theorem State.setReg_mbc (s : State) (r : R8) (v : Byte) : (s.setReg r v).mbc = s.mbc := rfl
@[simp] theorem State.setReg_rom (s : State) (r : R8) (v : Byte) : (s.setReg r v).rom = s.rom := rfl
@[simp] theorem State.setReg_romSizeCode (s : State) (r : R8) (v : Byte) : (s.setReg r v).romSizeCode = s.romSizeCode := rfl
@[simp] theorem State.setReg_cartRam (s : State) (r : R8) (v : Byte) : (s.setReg r v).cartRam = s.cartRam := rfl
@[simp] theorem State.setReg_ramSizeCode (s : State) (r : R8) (v : Byte) : (s.setReg r v).ramSizeCode = s.ramSizeCode := rfl
@[simp] theorem State.setReg_wram (s : State) (r : R8) (v : Byte) : (s.setReg r v).wram = s.wram := rfl
@[simp] theorem State.setReg_hram (s : State) (r : R8) (v : Byte) : (s.setReg r v).hram = s.hram := rfl
@[simp] theorem State.setReg_periph (s : State) (r : R8) (v : Byte) : (s.setReg r v).periph = s.periph := rfl
@[simp] theorem State.setReg_cycles (s : State) (r : R8) (v : Byte) : (s.setReg r v).cycles = s.cycles := rfl
@[simp] theorem State.setReg_params (s : State) (r : R8) (v : Byte) : (s.setReg r v).params = s.params := rfl

/-! ## setHL -/

@[simp] theorem State.setHL_regs (s : State) (v : Word) : (s.setHL v).regs = s.regs.setHL v := rfl
@[simp] theorem State.setHL_sp (s : State) (v : Word) : (s.setHL v).sp = s.sp := rfl
@[simp] theorem State.setHL_pc (s : State) (v : Word) : (s.setHL v).pc = s.pc := rfl
@[simp] theorem State.setHL_ime (s : State) (v : Word) : (s.setHL v).ime = s.ime := rfl
@[simp] theorem State.setHL_halted (s : State) (v : Word) : (s.setHL v).halted = s.halted := rfl
@[simp] theorem State.setHL_eiPending (s : State) (v : Word) : (s.setHL v).eiPending = s.eiPending := rfl
@[simp] theorem State.setHL_ifReg (s : State) (v : Word) : (s.setHL v).ifReg = s.ifReg := rfl
@[simp] theorem State.setHL_ieReg (s : State) (v : Word) : (s.setHL v).ieReg = s.ieReg := rfl
@[simp] theorem State.setHL_mbc (s : State) (v : Word) : (s.setHL v).mbc = s.mbc := rfl
@[simp] theorem State.setHL_rom (s : State) (v : Word) : (s.setHL v).rom = s.rom := rfl
@[simp] theorem State.setHL_romSizeCode (s : State) (v : Word) : (s.setHL v).romSizeCode = s.romSizeCode := rfl
@[simp] theorem State.setHL_cartRam (s : State) (v : Word) : (s.setHL v).cartRam = s.cartRam := rfl
@[simp] theorem State.setHL_ramSizeCode (s : State) (v : Word) : (s.setHL v).ramSizeCode = s.ramSizeCode := rfl
@[simp] theorem State.setHL_wram (s : State) (v : Word) : (s.setHL v).wram = s.wram := rfl
@[simp] theorem State.setHL_hram (s : State) (v : Word) : (s.setHL v).hram = s.hram := rfl
@[simp] theorem State.setHL_periph (s : State) (v : Word) : (s.setHL v).periph = s.periph := rfl
@[simp] theorem State.setHL_cycles (s : State) (v : Word) : (s.setHL v).cycles = s.cycles := rfl
@[simp] theorem State.setHL_params (s : State) (v : Word) : (s.setHL v).params = s.params := rfl

/-! ## setSP -/

@[simp] theorem State.setSP_regs (s : State) (v : Word) : (s.setSP v).regs = s.regs := rfl
@[simp] theorem State.setSP_sp (s : State) (v : Word) : (s.setSP v).sp = v := rfl
@[simp] theorem State.setSP_pc (s : State) (v : Word) : (s.setSP v).pc = s.pc := rfl
@[simp] theorem State.setSP_ime (s : State) (v : Word) : (s.setSP v).ime = s.ime := rfl
@[simp] theorem State.setSP_halted (s : State) (v : Word) : (s.setSP v).halted = s.halted := rfl
@[simp] theorem State.setSP_eiPending (s : State) (v : Word) : (s.setSP v).eiPending = s.eiPending := rfl
@[simp] theorem State.setSP_ifReg (s : State) (v : Word) : (s.setSP v).ifReg = s.ifReg := rfl
@[simp] theorem State.setSP_ieReg (s : State) (v : Word) : (s.setSP v).ieReg = s.ieReg := rfl
@[simp] theorem State.setSP_mbc (s : State) (v : Word) : (s.setSP v).mbc = s.mbc := rfl
@[simp] theorem State.setSP_rom (s : State) (v : Word) : (s.setSP v).rom = s.rom := rfl
@[simp] theorem State.setSP_romSizeCode (s : State) (v : Word) : (s.setSP v).romSizeCode = s.romSizeCode := rfl
@[simp] theorem State.setSP_cartRam (s : State) (v : Word) : (s.setSP v).cartRam = s.cartRam := rfl
@[simp] theorem State.setSP_ramSizeCode (s : State) (v : Word) : (s.setSP v).ramSizeCode = s.ramSizeCode := rfl
@[simp] theorem State.setSP_wram (s : State) (v : Word) : (s.setSP v).wram = s.wram := rfl
@[simp] theorem State.setSP_hram (s : State) (v : Word) : (s.setSP v).hram = s.hram := rfl
@[simp] theorem State.setSP_periph (s : State) (v : Word) : (s.setSP v).periph = s.periph := rfl
@[simp] theorem State.setSP_cycles (s : State) (v : Word) : (s.setSP v).cycles = s.cycles := rfl
@[simp] theorem State.setSP_params (s : State) (v : Word) : (s.setSP v).params = s.params := rfl

/-! ## setPC -/

@[simp] theorem State.setPC_regs (s : State) (v : Word) : (s.setPC v).regs = s.regs := rfl
@[simp] theorem State.setPC_sp (s : State) (v : Word) : (s.setPC v).sp = s.sp := rfl
@[simp] theorem State.setPC_pc (s : State) (v : Word) : (s.setPC v).pc = v := rfl
@[simp] theorem State.setPC_ime (s : State) (v : Word) : (s.setPC v).ime = s.ime := rfl
@[simp] theorem State.setPC_halted (s : State) (v : Word) : (s.setPC v).halted = s.halted := rfl
@[simp] theorem State.setPC_eiPending (s : State) (v : Word) : (s.setPC v).eiPending = s.eiPending := rfl
@[simp] theorem State.setPC_ifReg (s : State) (v : Word) : (s.setPC v).ifReg = s.ifReg := rfl
@[simp] theorem State.setPC_ieReg (s : State) (v : Word) : (s.setPC v).ieReg = s.ieReg := rfl
@[simp] theorem State.setPC_mbc (s : State) (v : Word) : (s.setPC v).mbc = s.mbc := rfl
@[simp] theorem State.setPC_rom (s : State) (v : Word) : (s.setPC v).rom = s.rom := rfl
@[simp] theorem State.setPC_romSizeCode (s : State) (v : Word) : (s.setPC v).romSizeCode = s.romSizeCode := rfl
@[simp] theorem State.setPC_cartRam (s : State) (v : Word) : (s.setPC v).cartRam = s.cartRam := rfl
@[simp] theorem State.setPC_ramSizeCode (s : State) (v : Word) : (s.setPC v).ramSizeCode = s.ramSizeCode := rfl
@[simp] theorem State.setPC_wram (s : State) (v : Word) : (s.setPC v).wram = s.wram := rfl
@[simp] theorem State.setPC_hram (s : State) (v : Word) : (s.setPC v).hram = s.hram := rfl
@[simp] theorem State.setPC_periph (s : State) (v : Word) : (s.setPC v).periph = s.periph := rfl
@[simp] theorem State.setPC_cycles (s : State) (v : Word) : (s.setPC v).cycles = s.cycles := rfl
@[simp] theorem State.setPC_params (s : State) (v : Word) : (s.setPC v).params = s.params := rfl

/-! ## setIME -/

@[simp] theorem State.setIME_regs (s : State) (v : Bool) : (s.setIME v).regs = s.regs := rfl
@[simp] theorem State.setIME_sp (s : State) (v : Bool) : (s.setIME v).sp = s.sp := rfl
@[simp] theorem State.setIME_pc (s : State) (v : Bool) : (s.setIME v).pc = s.pc := rfl
@[simp] theorem State.setIME_ime (s : State) (v : Bool) : (s.setIME v).ime = v := rfl
@[simp] theorem State.setIME_halted (s : State) (v : Bool) : (s.setIME v).halted = s.halted := rfl
@[simp] theorem State.setIME_eiPending (s : State) (v : Bool) : (s.setIME v).eiPending = s.eiPending := rfl
@[simp] theorem State.setIME_ifReg (s : State) (v : Bool) : (s.setIME v).ifReg = s.ifReg := rfl
@[simp] theorem State.setIME_ieReg (s : State) (v : Bool) : (s.setIME v).ieReg = s.ieReg := rfl
@[simp] theorem State.setIME_mbc (s : State) (v : Bool) : (s.setIME v).mbc = s.mbc := rfl
@[simp] theorem State.setIME_rom (s : State) (v : Bool) : (s.setIME v).rom = s.rom := rfl
@[simp] theorem State.setIME_romSizeCode (s : State) (v : Bool) : (s.setIME v).romSizeCode = s.romSizeCode := rfl
@[simp] theorem State.setIME_cartRam (s : State) (v : Bool) : (s.setIME v).cartRam = s.cartRam := rfl
@[simp] theorem State.setIME_ramSizeCode (s : State) (v : Bool) : (s.setIME v).ramSizeCode = s.ramSizeCode := rfl
@[simp] theorem State.setIME_wram (s : State) (v : Bool) : (s.setIME v).wram = s.wram := rfl
@[simp] theorem State.setIME_hram (s : State) (v : Bool) : (s.setIME v).hram = s.hram := rfl
@[simp] theorem State.setIME_periph (s : State) (v : Bool) : (s.setIME v).periph = s.periph := rfl
@[simp] theorem State.setIME_cycles (s : State) (v : Bool) : (s.setIME v).cycles = s.cycles := rfl
@[simp] theorem State.setIME_params (s : State) (v : Bool) : (s.setIME v).params = s.params := rfl

/-! ## setFlags -/

@[simp] theorem State.setFlags_regs (s : State) (z n h cy : Bool) : (s.setFlags z n h cy).regs = { s.regs with f := withFlags s.regs.f z n h cy } := rfl
@[simp] theorem State.setFlags_sp (s : State) (z n h cy : Bool) : (s.setFlags z n h cy).sp = s.sp := rfl
@[simp] theorem State.setFlags_pc (s : State) (z n h cy : Bool) : (s.setFlags z n h cy).pc = s.pc := rfl
@[simp] theorem State.setFlags_ime (s : State) (z n h cy : Bool) : (s.setFlags z n h cy).ime = s.ime := rfl
@[simp] theorem State.setFlags_halted (s : State) (z n h cy : Bool) : (s.setFlags z n h cy).halted = s.halted := rfl
@[simp] theorem State.setFlags_eiPending (s : State) (z n h cy : Bool) : (s.setFlags z n h cy).eiPending = s.eiPending := rfl
@[simp] theorem State.setFlags_ifReg (s : State) (z n h cy : Bool) : (s.setFlags z n h cy).ifReg = s.ifReg := rfl
@[simp] theorem State.setFlags_ieReg (s : State) (z n h cy : Bool) : (s.setFlags z n h cy).ieReg = s.ieReg := rfl
@[simp] theorem State.setFlags_mbc (s : State) (z n h cy : Bool) : (s.setFlags z n h cy).mbc = s.mbc := rfl
@[simp] theorem State.setFlags_rom (s : State) (z n h cy : Bool) : (s.setFlags z n h cy).rom = s.rom := rfl
@[simp] theorem State.setFlags_romSizeCode (s : State) (z n h cy : Bool) : (s.setFlags z n h cy).romSizeCode = s.romSizeCode := rfl
@[simp] theorem State.setFlags_cartRam (s : State) (z n h cy : Bool) : (s.setFlags z n h cy).cartRam = s.cartRam := rfl
@[simp] theorem State.setFlags_ramSizeCode (s : State) (z n h cy : Bool) : (s.setFlags z n h cy).ramSizeCode = s.ramSizeCode := rfl
@[simp] theorem State.setFlags_wram (s : State) (z n h cy : Bool) : (s.setFlags z n h cy).wram = s.wram := rfl
@[simp] theorem State.setFlags_hram (s : State) (z n h cy : Bool) : (s.setFlags z n h cy).hram = s.hram := rfl
@[simp] theorem State.setFlags_periph (s : State) (z n h cy : Bool) : (s.setFlags z n h cy).periph = s.periph := rfl
@[simp] theorem State.setFlags_cycles (s : State) (z n h cy : Bool) : (s.setFlags z n h cy).cycles = s.cycles := rfl
@[simp] theorem State.setFlags_params (s : State) (z n h cy : Bool) : (s.setFlags z n h cy).params = s.params := rfl

/-! ## setResultFlags -/

@[simp] theorem State.setResultFlags_regs (s : State) (r : Result8) : (s.setResultFlags r).regs = { s.regs with f := withFlags s.regs.f r.z r.n r.h r.cy } := rfl
@[simp] theorem State.setResultFlags_sp (s : State) (r : Result8) : (s.setResultFlags r).sp = s.sp := rfl
@[simp] theorem State.setResultFlags_pc (s : State) (r : Result8) : (s.setResultFlags r).pc = s.pc := rfl
@[simp] theorem State.setResultFlags_ime (s : State) (r : Result8) : (s.setResultFlags r).ime = s.ime := rfl
@[simp] theorem State.setResultFlags_halted (s : State) (r : Result8) : (s.setResultFlags r).halted = s.halted := rfl
@[simp] theorem State.setResultFlags_eiPending (s : State) (r : Result8) : (s.setResultFlags r).eiPending = s.eiPending := rfl
@[simp] theorem State.setResultFlags_ifReg (s : State) (r : Result8) : (s.setResultFlags r).ifReg = s.ifReg := rfl
@[simp] theorem State.setResultFlags_ieReg (s : State) (r : Result8) : (s.setResultFlags r).ieReg = s.ieReg := rfl
@[simp] theorem State.setResultFlags_mbc (s : State) (r : Result8) : (s.setResultFlags r).mbc = s.mbc := rfl
@[simp] theorem State.setResultFlags_rom (s : State) (r : Result8) : (s.setResultFlags r).rom = s.rom := rfl
@[simp] theorem State.setResultFlags_romSizeCode (s : State) (r : Result8) : (s.setResultFlags r).romSizeCode = s.romSizeCode := rfl
@[simp] theorem State.setResultFlags_cartRam (s : State) (r : Result8) : (s.setResultFlags r).cartRam = s.cartRam := rfl
@[simp] theorem State.setResultFlags_ramSizeCode (s : State) (r : Result8) : (s.setResultFlags r).ramSizeCode = s.ramSizeCode := rfl
@[simp] theorem State.setResultFlags_wram (s : State) (r : Result8) : (s.setResultFlags r).wram = s.wram := rfl
@[simp] theorem State.setResultFlags_hram (s : State) (r : Result8) : (s.setResultFlags r).hram = s.hram := rfl
@[simp] theorem State.setResultFlags_periph (s : State) (r : Result8) : (s.setResultFlags r).periph = s.periph := rfl
@[simp] theorem State.setResultFlags_cycles (s : State) (r : Result8) : (s.setResultFlags r).cycles = s.cycles := rfl
@[simp] theorem State.setResultFlags_params (s : State) (r : Result8) : (s.setResultFlags r).params = s.params := rfl

/-! ## charge -/

@[simp] theorem State.charge_regs (s : State) (n : Nat) : (s.charge n).regs = s.regs := rfl
@[simp] theorem State.charge_sp (s : State) (n : Nat) : (s.charge n).sp = s.sp := rfl
@[simp] theorem State.charge_pc (s : State) (n : Nat) : (s.charge n).pc = s.pc := rfl
@[simp] theorem State.charge_ime (s : State) (n : Nat) : (s.charge n).ime = s.ime := rfl
@[simp] theorem State.charge_halted (s : State) (n : Nat) : (s.charge n).halted = s.halted := rfl
@[simp] theorem State.charge_eiPending (s : State) (n : Nat) : (s.charge n).eiPending = s.eiPending := rfl
@[simp] theorem State.charge_ifReg (s : State) (n : Nat) : (s.charge n).ifReg = s.ifReg := rfl
@[simp] theorem State.charge_ieReg (s : State) (n : Nat) : (s.charge n).ieReg = s.ieReg := rfl
@[simp] theorem State.charge_mbc (s : State) (n : Nat) : (s.charge n).mbc = s.mbc := rfl
@[simp] theorem State.charge_rom (s : State) (n : Nat) : (s.charge n).rom = s.rom := rfl
@[simp] theorem State.charge_romSizeCode (s : State) (n : Nat) : (s.charge n).romSizeCode = s.romSizeCode := rfl
@[simp] theorem State.charge_cartRam (s : State) (n : Nat) : (s.charge n).cartRam = s.cartRam := rfl
@[simp] theorem State.charge_ramSizeCode (s : State) (n : Nat) : (s.charge n).ramSizeCode = s.ramSizeCode := rfl
@[simp] theorem State.charge_wram (s : State) (n : Nat) : (s.charge n).wram = s.wram := rfl
@[simp] theorem State.charge_hram (s : State) (n : Nat) : (s.charge n).hram = s.hram := rfl
@[simp] theorem State.charge_periph (s : State) (n : Nat) : (s.charge n).periph = s.periph := rfl
@[simp] theorem State.charge_cycles (s : State) (n : Nat) : (s.charge n).cycles = { s.cycles with instruction := s.cycles.instruction + n } := rfl
@[simp] theorem State.charge_params (s : State) (n : Nat) : (s.charge n).params = s.params := rfl

/-! ## setRp2 -/

@[simp] theorem State.setRp2_sp (s : State) (rr : Rp2) (v : Word) : (s.setRp2 rr v).sp = s.sp := by cases rr <;> rfl
@[simp] theorem State.setRp2_pc (s : State) (rr : Rp2) (v : Word) : (s.setRp2 rr v).pc = s.pc := by cases rr <;> rfl
@[simp] theorem State.setRp2_ime (s : State) (rr : Rp2) (v : Word) : (s.setRp2 rr v).ime = s.ime := by cases rr <;> rfl
@[simp] theorem State.setRp2_halted (s : State) (rr : Rp2) (v : Word) : (s.setRp2 rr v).halted = s.halted := by cases rr <;> rfl
@[simp] theorem State.setRp2_eiPending (s : State) (rr : Rp2) (v : Word) : (s.setRp2 rr v).eiPending = s.eiPending := by cases rr <;> rfl
@[simp] theorem State.setRp2_ifReg (s : State) (rr : Rp2) (v : Word) : (s.setRp2 rr v).ifReg = s.ifReg := by cases rr <;> rfl
@[simp] theorem State.setRp2_ieReg (s : State) (rr : Rp2) (v : Word) : (s.setRp2 rr v).ieReg = s.ieReg := by cases rr <;> rfl
@[simp] theorem State.setRp2_mbc (s : State) (rr : Rp2) (v : Word) : (s.setRp2 rr v).mbc = s.mbc := by cases rr <;> rfl
@[simp] theorem State.setRp2_rom (s : State) (rr : Rp2) (v : Word) : (s.setRp2 rr v).rom = s.rom := by cases rr <;> rfl
@[simp] theorem State.setRp2_romSizeCode (s : State) (rr : Rp2) (v : Word) : (s.setRp2 rr v).romSizeCode = s.romSizeCode := by cases rr <;> rfl
@[simp] theorem State.setRp2_cartRam (s : State) (rr : Rp2) (v : Word) : (s.setRp2 rr v).cartRam = s.cartRam := by cases rr <;> rfl
@[simp] theorem State.setRp2_ramSizeCode (s : State) (rr : Rp2) (v : Word) : (s.setRp2 rr v).ramSizeCode = s.ramSizeCode := by cases rr <;> rfl
@[simp] theorem State.setRp2_wram (s : State) (rr : Rp2) (v : Word) : (s.setRp2 rr v).wram = s.wram := by cases rr <;> rfl
@[simp] theorem State.setRp2_hram (s : State) (rr : Rp2) (v : Word) : (s.setRp2 rr v).hram = s.hram := by cases rr <;> rfl
@[simp] theorem State.setRp2_periph (s : State) (rr : Rp2) (v : Word) : (s.setRp2 rr v).periph = s.periph := by cases rr <;> rfl
@[simp] theorem State.setRp2_cycles (s : State) (rr : Rp2) (v : Word) : (s.setRp2 rr v).cycles = s.cycles := by cases rr <;> rfl
@[simp] theorem State.setRp2_params (s : State) (rr : Rp2) (v : Word) : (s.setRp2 rr v).params = s.params := by cases rr <;> rfl

/-! ## setRp -/

@[simp] theorem State.setRp_sp (s : State) (rr : Rp) (v : Word) : (s.setRp rr v).sp = match rr with | .sp => v | _ => s.sp := by cases rr <;> rfl
@[simp] theorem State.setRp_pc (s : State) (rr : Rp) (v : Word) : (s.setRp rr v).pc = s.pc := by cases rr <;> rfl
@[simp] theorem State.setRp_ime (s : State) (rr : Rp) (v : Word) : (s.setRp rr v).ime = s.ime := by cases rr <;> rfl
@[simp] theorem State.setRp_halted (s : State) (rr : Rp) (v : Word) : (s.setRp rr v).halted = s.halted := by cases rr <;> rfl
@[simp] theorem State.setRp_eiPending (s : State) (rr : Rp) (v : Word) : (s.setRp rr v).eiPending = s.eiPending := by cases rr <;> rfl
@[simp] theorem State.setRp_ifReg (s : State) (rr : Rp) (v : Word) : (s.setRp rr v).ifReg = s.ifReg := by cases rr <;> rfl
@[simp] theorem State.setRp_ieReg (s : State) (rr : Rp) (v : Word) : (s.setRp rr v).ieReg = s.ieReg := by cases rr <;> rfl
@[simp] theorem State.setRp_mbc (s : State) (rr : Rp) (v : Word) : (s.setRp rr v).mbc = s.mbc := by cases rr <;> rfl
@[simp] theorem State.setRp_rom (s : State) (rr : Rp) (v : Word) : (s.setRp rr v).rom = s.rom := by cases rr <;> rfl
@[simp] theorem State.setRp_romSizeCode (s : State) (rr : Rp) (v : Word) : (s.setRp rr v).romSizeCode = s.romSizeCode := by cases rr <;> rfl
@[simp] theorem State.setRp_cartRam (s : State) (rr : Rp) (v : Word) : (s.setRp rr v).cartRam = s.cartRam := by cases rr <;> rfl
@[simp] theorem State.setRp_ramSizeCode (s : State) (rr : Rp) (v : Word) : (s.setRp rr v).ramSizeCode = s.ramSizeCode := by cases rr <;> rfl
@[simp] theorem State.setRp_wram (s : State) (rr : Rp) (v : Word) : (s.setRp rr v).wram = s.wram := by cases rr <;> rfl
@[simp] theorem State.setRp_hram (s : State) (rr : Rp) (v : Word) : (s.setRp rr v).hram = s.hram := by cases rr <;> rfl
@[simp] theorem State.setRp_periph (s : State) (rr : Rp) (v : Word) : (s.setRp rr v).periph = s.periph := by cases rr <;> rfl
@[simp] theorem State.setRp_cycles (s : State) (rr : Rp) (v : Word) : (s.setRp rr v).cycles = s.cycles := by cases rr <;> rfl
@[simp] theorem State.setRp_params (s : State) (rr : Rp) (v : Word) : (s.setRp rr v).params = s.params := by cases rr <;> rfl

/-! ## afterPeriph -/

@[simp] theorem State.afterPeriph_regs (s : State) (r : Periph × BitVec 5) : (s.afterPeriph r).regs = s.regs := rfl
@[simp] theorem State.afterPeriph_sp (s : State) (r : Periph × BitVec 5) : (s.afterPeriph r).sp = s.sp := rfl
@[simp] theorem State.afterPeriph_pc (s : State) (r : Periph × BitVec 5) : (s.afterPeriph r).pc = s.pc := rfl
@[simp] theorem State.afterPeriph_ime (s : State) (r : Periph × BitVec 5) : (s.afterPeriph r).ime = s.ime := rfl
@[simp] theorem State.afterPeriph_halted (s : State) (r : Periph × BitVec 5) : (s.afterPeriph r).halted = s.halted := rfl
@[simp] theorem State.afterPeriph_eiPending (s : State) (r : Periph × BitVec 5) : (s.afterPeriph r).eiPending = s.eiPending := rfl
@[simp] theorem State.afterPeriph_ifReg (s : State) (r : Periph × BitVec 5) : (s.afterPeriph r).ifReg = s.ifReg ||| r.2.setWidth 8 := rfl
@[simp] theorem State.afterPeriph_ieReg (s : State) (r : Periph × BitVec 5) : (s.afterPeriph r).ieReg = s.ieReg := rfl
@[simp] theorem State.afterPeriph_mbc (s : State) (r : Periph × BitVec 5) : (s.afterPeriph r).mbc = s.mbc := rfl
@[simp] theorem State.afterPeriph_rom (s : State) (r : Periph × BitVec 5) : (s.afterPeriph r).rom = s.rom := rfl
@[simp] theorem State.afterPeriph_romSizeCode (s : State) (r : Periph × BitVec 5) : (s.afterPeriph r).romSizeCode = s.romSizeCode := rfl
@[simp] theorem State.afterPeriph_cartRam (s : State) (r : Periph × BitVec 5) : (s.afterPeriph r).cartRam = s.cartRam := rfl
@[simp] theorem State.afterPeriph_ramSizeCode (s : State) (r : Periph × BitVec 5) : (s.afterPeriph r).ramSizeCode = s.ramSizeCode := rfl
@[simp] theorem State.afterPeriph_wram (s : State) (r : Periph × BitVec 5) : (s.afterPeriph r).wram = s.wram := rfl
@[simp] theorem State.afterPeriph_hram (s : State) (r : Periph × BitVec 5) : (s.afterPeriph r).hram = s.hram := rfl
@[simp] theorem State.afterPeriph_periph (s : State) (r : Periph × BitVec 5) : (s.afterPeriph r).periph = r.1 := rfl
@[simp] theorem State.afterPeriph_cycles (s : State) (r : Periph × BitVec 5) : (s.afterPeriph r).cycles = s.cycles := rfl
@[simp] theorem State.afterPeriph_params (s : State) (r : Periph × BitVec 5) : (s.afterPeriph r).params = s.params := rfl

/-! ## mbcWrite -/

@[simp] theorem State.mbcWrite_regs (s : State) (n : Nat) (v : Byte) : (s.mbcWrite n v).regs = s.regs := rfl
@[simp] theorem State.mbcWrite_sp (s : State) (n : Nat) (v : Byte) : (s.mbcWrite n v).sp = s.sp := rfl
@[simp] theorem State.mbcWrite_pc (s : State) (n : Nat) (v : Byte) : (s.mbcWrite n v).pc = s.pc := rfl
@[simp] theorem State.mbcWrite_ime (s : State) (n : Nat) (v : Byte) : (s.mbcWrite n v).ime = s.ime := rfl
@[simp] theorem State.mbcWrite_halted (s : State) (n : Nat) (v : Byte) : (s.mbcWrite n v).halted = s.halted := rfl
@[simp] theorem State.mbcWrite_eiPending (s : State) (n : Nat) (v : Byte) : (s.mbcWrite n v).eiPending = s.eiPending := rfl
@[simp] theorem State.mbcWrite_ifReg (s : State) (n : Nat) (v : Byte) : (s.mbcWrite n v).ifReg = s.ifReg := rfl
@[simp] theorem State.mbcWrite_ieReg (s : State) (n : Nat) (v : Byte) : (s.mbcWrite n v).ieReg = s.ieReg := rfl
@[simp] theorem State.mbcWrite_mbc (s : State) (n : Nat) (v : Byte) : (s.mbcWrite n v).mbc = s.mbc.write s.params.mbc1ModeWrite n v := rfl
@[simp] theorem State.mbcWrite_rom (s : State) (n : Nat) (v : Byte) : (s.mbcWrite n v).rom = s.rom := rfl
@[simp] theorem State.mbcWrite_romSizeCode (s : State) (n : Nat) (v : Byte) : (s.mbcWrite n v).romSizeCode = s.romSizeCode := rfl
@[simp] theorem State.mbcWrite_cartRam (s : State) (n : Nat) (v : Byte) : (s.mbcWrite n v).cartRam = s.cartRam := rfl
@[simp] theorem State.mbcWrite_ramSizeCode (s : State) (n : Nat) (v : Byte) : (s.mbcWrite n v).ramSizeCode = s.ramSizeCode := rfl
@[simp] theorem State.mbcWrite_wram (s : State) (n : Nat) (v : Byte) : (s.mbcWrite n v).wram = s.wram := rfl
@[simp] theorem State.mbcWrite_hram (s : State) (n : Nat) (v : Byte) : (s.mbcWrite n v).hram = s.hram := rfl
@[simp] theorem State.mbcWrite_periph (s : State) (n : Nat) (v : Byte) : (s.mbcWrite n v).periph = s.periph := rfl
@[simp] theorem State.mbcWrite_cycles (s : State) (n : Nat) (v : Byte) : (s.mbcWrite n v).cycles = s.cycles := rfl
@[simp] theorem State.mbcWrite_params (s : State) (n : Nat) (v : Byte) : (s.mbcWrite n v).params = s.params := rfl

/-! ## beginStep -/

@[simp] theorem beginStep_regs (s : State) : (beginStep s).regs = s.regs := rfl
@[simp] theorem beginStep_sp (s : State) : (beginStep s).sp = s.sp := rfl
@[simp] theorem beginStep_pc (s : State) : (beginStep s).pc = s.pc := rfl
@[simp] theorem beginStep_ime (s : State) :
    (beginStep s).ime = (if s.params.eiDelay && s.eiPending then true else s.ime) := rfl
@[simp] theorem beginStep_halted (s : State) : (beginStep s).halted = s.halted := rfl
@[simp] theorem beginStep_eiPending (s : State) :
    (beginStep s).eiPending = (if s.params.eiDelay && s.eiPending then false else s.eiPending) := rfl
@[simp] theorem beginStep_ifReg (s : State) : (beginStep s).ifReg = s.ifReg := rfl
@[simp] theorem beginStep_ieReg (s : State) : (beginStep s).ieReg = s.ieReg := rfl
@[simp] theorem beginStep_mbc (s : State) : (beginStep s).mbc = s.mbc := rfl
@[simp] theorem beginStep_rom (s : State) : (beginStep s).rom = s.rom := rfl
@[simp] theorem beginStep_romSizeCode (s : State) : (beginStep s).romSizeCode = s.romSizeCode := rfl
@[simp] theorem beginStep_cartRam (s : State) : (beginStep s).cartRam = s.cartRam := rfl
@[simp] theorem beginStep_ramSizeCode (s : State) : (beginStep s).ramSizeCode = s.ramSizeCode := rfl
@[simp] theorem beginStep_wram (s : State) : (beginStep s).wram = s.wram := rfl
@[simp] theorem beginStep_hram (s : State) : (beginStep s).hram = s.hram := rfl
@[simp] theorem beginStep_periph (s : State) : (beginStep s).periph = s.periph := rfl
@[simp] theorem beginStep_cycles (s : State) :
    (beginStep s).cycles = { instruction := 0, dma := 0, dispatch := 0 } := rfl
@[simp] theorem beginStep_params (s : State) : (beginStep s).params = s.params := rfl

/-! ## haltedIdle -/

@[simp] theorem haltedIdle_regs (s : State) : (haltedIdle s).regs = s.regs := rfl
@[simp] theorem haltedIdle_sp (s : State) : (haltedIdle s).sp = s.sp := rfl
@[simp] theorem haltedIdle_pc (s : State) : (haltedIdle s).pc = s.pc := rfl
@[simp] theorem haltedIdle_ime (s : State) : (haltedIdle s).ime = s.ime := rfl
@[simp] theorem haltedIdle_halted (s : State) : (haltedIdle s).halted = s.halted := rfl
@[simp] theorem haltedIdle_eiPending (s : State) : (haltedIdle s).eiPending = s.eiPending := rfl
@[simp] theorem haltedIdle_ifReg (s : State) : (haltedIdle s).ifReg = s.ifReg := rfl
@[simp] theorem haltedIdle_ieReg (s : State) : (haltedIdle s).ieReg = s.ieReg := rfl
@[simp] theorem haltedIdle_mbc (s : State) : (haltedIdle s).mbc = s.mbc := rfl
@[simp] theorem haltedIdle_rom (s : State) : (haltedIdle s).rom = s.rom := rfl
@[simp] theorem haltedIdle_romSizeCode (s : State) : (haltedIdle s).romSizeCode = s.romSizeCode := rfl
@[simp] theorem haltedIdle_cartRam (s : State) : (haltedIdle s).cartRam = s.cartRam := rfl
@[simp] theorem haltedIdle_ramSizeCode (s : State) : (haltedIdle s).ramSizeCode = s.ramSizeCode := rfl
@[simp] theorem haltedIdle_wram (s : State) : (haltedIdle s).wram = s.wram := rfl
@[simp] theorem haltedIdle_hram (s : State) : (haltedIdle s).hram = s.hram := rfl
@[simp] theorem haltedIdle_periph (s : State) : (haltedIdle s).periph = s.periph := rfl
@[simp] theorem haltedIdle_cycles (s : State) :
    (haltedIdle s).cycles = { s.cycles with instruction := Config.haltCycles } := rfl
@[simp] theorem haltedIdle_params (s : State) : (haltedIdle s).params = s.params := rfl

/-! ## updatePeriph -/

@[simp] theorem updatePeriph_regs (s : State) : (updatePeriph s).regs = s.regs := rfl
@[simp] theorem updatePeriph_sp (s : State) : (updatePeriph s).sp = s.sp := rfl
@[simp] theorem updatePeriph_pc (s : State) : (updatePeriph s).pc = s.pc := rfl
@[simp] theorem updatePeriph_ime (s : State) : (updatePeriph s).ime = s.ime := rfl
@[simp] theorem updatePeriph_halted (s : State) : (updatePeriph s).halted = s.halted := rfl
@[simp] theorem updatePeriph_eiPending (s : State) : (updatePeriph s).eiPending = s.eiPending := rfl
@[simp] theorem updatePeriph_ifReg (s : State) :
    (updatePeriph s).ifReg = s.ifReg ||| (s.periph.update s.cycles.instruction).2.setWidth 8 := rfl
@[simp] theorem updatePeriph_ieReg (s : State) : (updatePeriph s).ieReg = s.ieReg := rfl
@[simp] theorem updatePeriph_mbc (s : State) : (updatePeriph s).mbc = s.mbc := rfl
@[simp] theorem updatePeriph_rom (s : State) : (updatePeriph s).rom = s.rom := rfl
@[simp] theorem updatePeriph_romSizeCode (s : State) : (updatePeriph s).romSizeCode = s.romSizeCode := rfl
@[simp] theorem updatePeriph_cartRam (s : State) : (updatePeriph s).cartRam = s.cartRam := rfl
@[simp] theorem updatePeriph_ramSizeCode (s : State) : (updatePeriph s).ramSizeCode = s.ramSizeCode := rfl
@[simp] theorem updatePeriph_wram (s : State) : (updatePeriph s).wram = s.wram := rfl
@[simp] theorem updatePeriph_hram (s : State) : (updatePeriph s).hram = s.hram := rfl
@[simp] theorem updatePeriph_periph (s : State) :
    (updatePeriph s).periph = (s.periph.update s.cycles.instruction).1 := rfl
@[simp] theorem updatePeriph_cycles (s : State) : (updatePeriph s).cycles = s.cycles := rfl
@[simp] theorem updatePeriph_params (s : State) : (updatePeriph s).params = s.params := rfl

/-! ## advance -/

@[simp] theorem advance_regs (s : State) (x : Fetched) : (advance s x).regs = s.regs := rfl
@[simp] theorem advance_sp (s : State) (x : Fetched) : (advance s x).sp = s.sp := rfl
@[simp] theorem advance_pc (s : State) (x : Fetched) : (advance s x).pc = s.pc + BitVec.ofNat 16 x.size := rfl
@[simp] theorem advance_ime (s : State) (x : Fetched) : (advance s x).ime = s.ime := rfl
@[simp] theorem advance_halted (s : State) (x : Fetched) : (advance s x).halted = s.halted := rfl
@[simp] theorem advance_eiPending (s : State) (x : Fetched) : (advance s x).eiPending = s.eiPending := rfl
@[simp] theorem advance_ifReg (s : State) (x : Fetched) : (advance s x).ifReg = s.ifReg := rfl
@[simp] theorem advance_ieReg (s : State) (x : Fetched) : (advance s x).ieReg = s.ieReg := rfl
@[simp] theorem advance_mbc (s : State) (x : Fetched) : (advance s x).mbc = s.mbc := rfl
@[simp] theorem advance_rom (s : State) (x : Fetched) : (advance s x).rom = s.rom := rfl
@[simp] theorem advance_romSizeCode (s : State) (x : Fetched) : (advance s x).romSizeCode = s.romSizeCode := rfl
@[simp] theorem advance_cartRam (s : State) (x : Fetched) : (advance s x).cartRam = s.cartRam := rfl
@[simp] theorem advance_ramSizeCode (s : State) (x : Fetched) : (advance s x).ramSizeCode = s.ramSizeCode := rfl
@[simp] theorem advance_wram (s : State) (x : Fetched) : (advance s x).wram = s.wram := rfl
@[simp] theorem advance_hram (s : State) (x : Fetched) : (advance s x).hram = s.hram := rfl
@[simp] theorem advance_periph (s : State) (x : Fetched) : (advance s x).periph = s.periph := rfl
@[simp] theorem advance_cycles (s : State) (x : Fetched) : (advance s x).cycles = { s.cycles with instruction := x.cycles } := rfl
@[simp] theorem advance_params (s : State) (x : Fetched) : (advance s x).params = s.params := rfl

/-! ## Registers -/

/-- Reading a register after one is written: the value for the register written, else what it held. -/
theorem Regs.get_set (g : Regs) (dst r : R8) (v : Byte) :
    (g.set dst v).get r = if r = dst then v else g.get r := by
  cases dst <;> cases r <;> rfl

@[simp] theorem Regs.get_set_same (g : Regs) (r : R8) (v : Byte) : (g.set r v).get r = v := by
  cases r <;> rfl

@[simp] theorem Regs.set_f (g : Regs) (r : R8) (v : Byte) : (g.set r v).f = g.f := by
  cases r <;> rfl

@[simp] theorem Regs.setHL_f (g : Regs) (v : Word) : (g.setHL v).f = g.f := rfl

/-- A write of a pair of `rp` leaves F alone. -/
@[simp] theorem State.setRp_f (s : State) (rr : Rp) (v : Word) : (s.setRp rr v).regs.f = s.regs.f := by
  cases rr <;> rfl

/-- A write of a pair of `rp2` leaves F alone, or, for AF, clears its low nibble (R32). -/
theorem State.setRp2_f (s : State) (rr : Rp2) (v : Word) :
    (s.setRp2 rr v).regs.f = if rr = .af then loByte v &&& 0xF0 else s.regs.f := by
  cases rr <;> rfl

/-! ## Words and bytes -/

/-- `hi ++ lo` is `hi * 256 + lo` (R10). -/
theorem toNat_ofBytes (hi lo : Byte) : (ofBytes hi lo).toNat = 256 * hi.toNat + lo.toNat := by
  unfold ofBytes
  have := lo.isLt
  rw [BitVec.toNat_append, Nat.shiftLeft_eq, Nat.mul_comm, ← Nat.two_pow_add_eq_or_of_lt this]

/-- The address of the high-page forms is `0xFF00 + n` (R124). -/
theorem highPage_eq (n : Byte) : highPage n = 0xFF00 + n.setWidth 16 := by
  apply BitVec.eq_of_toNat_eq
  rw [highPage, toNat_ofBytes]
  have := n.isLt
  simp only [BitVec.toNat_add, BitVec.toNat_setWidth, show (0xFF : Byte).toNat = 255 from rfl,
    show (0xFF00 : Word).toNat = 0xFF00 from rfl]
  omega

@[simp] theorem hiByte_ofBytes (hi lo : Byte) : hiByte (ofBytes hi lo) = hi := by
  unfold hiByte ofBytes
  apply BitVec.eq_of_getLsbD_eq
  intro i hi'
  simp only [BitVec.getLsbD_extractLsb', BitVec.getLsbD_append]
  rw [if_neg (by omega)]
  simp [hi']

@[simp] theorem loByte_ofBytes (hi lo : Byte) : loByte (ofBytes hi lo) = lo := by
  unfold loByte ofBytes
  apply BitVec.eq_of_getLsbD_eq
  intro i hi'
  simp only [BitVec.getLsbD_extractLsb', BitVec.getLsbD_append]
  rw [if_pos (by omega)]
  simp [hi']

/-- A word is its high byte and its low byte (R10). -/
@[simp] theorem ofBytes_hiByte_loByte (w : Word) : ofBytes (hiByte w) (loByte w) = w := by
  unfold ofBytes hiByte loByte
  apply BitVec.eq_of_getLsbD_eq
  intro i hi
  simp only [BitVec.getLsbD_append, BitVec.getLsbD_extractLsb']
  by_cases h : i < 8
  · simp [h]
  · have h8 : 8 + (i - 8) = i := by omega
    have hlt : i - 8 < 8 := by omega
    simp [h, h8, hlt]

@[simp] theorem Regs.hl_setHL (g : Regs) (v : Word) : (g.setHL v).hl = v := by
  simp [Regs.hl, Regs.setHL]

/-- A pair of `rp` holds what is written to it (R31). -/
@[simp] theorem State.getRp_setRp (s : State) (rr : Rp) (v : Word) : (s.setRp rr v).getRp rr = v := by
  cases rr <;> simp [State.setRp, State.getRp, Regs.bc, Regs.de]

end Sys2Proof.Machine
end

