-- ==== Sys2Proof/Laws/Ops.lean ====
section
/-! SUPPORT. The laws of the shared operations and of the step loop: for each, once, everything it can do when it
answers a state. -/

namespace Sys2Proof.Machine

@[simp] theorem done_ok (t : State) : done (.ok t) = .next t := rfl

@[simp] theorem done_error (e : Fault) : done (.error e) = .fault e := rfl

theorem done_next {r : Except Fault State} {t : State} : done r = .next t ↔ r = .ok t := by
  cases r <;> simp [done]

/-! ## Operands -/

/-- A write of an operand changes a register, or is a bus write at HL. -/
theorem writeSrc_ok {s t : State} {dst : Src8} {v : Byte} :
    writeSrc s dst v = .ok t ↔
      (∃ r, dst = .reg r ∧ t = s.setReg r v) ∨ (dst = .atHL ∧ busWrite s s.regs.hl v = .ok t) := by
  cases dst with
  | reg r => simp [writeSrc, eq_comm]
  | atHL => simp [writeSrc]

/-- An operand read and rewritten with flags (INC, DEC, the rotates and shifts). -/
theorem modifyOperand_next {src : Src8} {f : Byte → Result8} {s t : State} :
    modifyOperand src f s = .next t ↔
      ∃ v u, readSrc s src = .ok v ∧ writeSrc s src (f v).value = .ok u ∧ t = u.setResultFlags (f v) := by
  unfold modifyOperand
  cases hr : readSrc s src with
  | error e => simp
  | ok v => cases hw : writeSrc s src (f v).value <;> simp [hw, eq_comm]

/-- An operand read and rewritten without flags (RES, SET). -/
theorem replaceOperand_next {src : Src8} {f : Byte → Byte} {s t : State} :
    replaceOperand src f s = .next t ↔ ∃ v, readSrc s src = .ok v ∧ writeSrc s src (f v) = .ok t := by
  unfold replaceOperand
  cases hr : readSrc s src with
  | error e => simp
  | ok v => simp [done_next]

/-- An operand read into the accumulator operation (R240). -/
theorem aluWith_next {op : AluOp} {src : Src8} {s t : State} :
    aluWith op src s = .next t ↔ ∃ b, readSrc s src = .ok b ∧ t = aluState op b s := by
  unfold aluWith
  cases readSrc s src <;> simp [eq_comm]

/-- A load of a register from memory. -/
theorem ldRegMem_next {dst : R8} {addr : Word} {s t : State} :
    ldRegMem dst addr s = .next t ↔ ∃ v, busRead s addr = .ok v ∧ t = s.setReg dst v := by
  unfold ldRegMem
  cases busRead s addr <;> simp [eq_comm]

/-- A store of a register to memory. -/
theorem ldMemReg_next {addr : Word} {src : R8} {s t : State} :
    ldMemReg addr src s = .next t ↔ busWrite s addr (s.regs.get src) = .ok t := done_next

/-! ## The stack -/

theorem setSP_eq_putCpu (s : State) (v : Word) : s.setSP v = s.putCpu (s.setSP v) := rfl

/-- A write does to a state with another SP what it does to the state. -/
theorem busWrite_setSP (s : State) (v : Word) (a : Word) (b : Byte) :
    busWrite (s.setSP v) a b = (busWrite s a b).map (·.setSP v) := by
  rw [setSP_eq_putCpu, busWrite_putCpu]
  cases h : busWrite s a b with
  | error e => rfl
  | ok t =>
    simp only [Except.map, Except.ok.injEq]
    rw [busWrite_frame h]
    rfl

/-- `Push16(v)` (R230): the two bytes written, and SP two lower. -/
theorem push16_ok {s t : State} {v : Word} :
    push16 s v = .ok t ↔ ∃ u w, busWrite s (s.sp - 1) (hiByte v) = .ok u ∧
      busWrite u (s.sp - 2) (loByte v) = .ok w ∧ t = w.setSP (s.sp - 2) := by
  unfold push16
  rw [busWrite_setSP]
  have h2 : s.sp - 1 - 1 = s.sp - 2 := by bv_omega
  cases h : busWrite s (s.sp - 1) (hiByte v) with
  | error e => simp [Except.map]
  | ok u =>
    simp only [Except.map, State.setSP_sp, busWrite_setSP, h2]
    generalize s.sp - 2 = q
    cases hw : busWrite u q (loByte v) with
    | error e => simp [hw]
    | ok w =>
      simp only [Except.ok.injEq, exists_eq_left', exists_and_left, hw]
      exact ⟨fun h => h ▸ rfl, fun h => h ▸ rfl⟩

/-- `Push16(v)` adds to the cycles only the DMA each of its two stores starts (R92). -/
theorem push16_cycles {s t : State} {v : Word} (h : push16 s v = .ok t) :
    t.cycles = { s.cycles with dma := s.cycles.dma + s.params.dmaCycles * dmaStarts (s.pushed v) } ∧
      t.params = s.params := by
  rw [push16_ok] at h
  obtain ⟨u, w, h1, h2, rfl⟩ := h
  have hs : storeAll s (s.pushed v) = .ok w := by
    simp only [State.pushed, storeAll]
    rw [h1]
    simp only
    rw [h2]
  obtain ⟨hd, hp⟩ := storeAll_dma hs
  refine ⟨?_, hp⟩
  change w.cycles = _
  rw [show w.cycles = ⟨w.cycles.instruction, w.cycles.dma, w.cycles.dispatch⟩ from rfl, hd,
    busWrite_instruction h2, busWrite_instruction h1, busWrite_dispatch h2, busWrite_dispatch h1]

/-- `Pop16()` (R231): the two bytes read, and SP two higher. -/
theorem pop16_ok {s t : State} {v : Word} :
    pop16 s = .ok (t, v) ↔ ∃ lo hi, busRead s s.sp = .ok lo ∧ busRead s (s.sp + 1) = .ok hi ∧
      t = s.setSP (s.sp + 2) ∧ v = ofBytes hi lo := by
  unfold pop16
  have h2 : s.sp + 1 + 1 = s.sp + 2 := by bv_omega
  have hr : busRead (s.setSP (s.sp + 1)) (s.sp + 1) = busRead s (s.sp + 1) := rfl
  rw [hr, h2]
  cases busRead s s.sp with
  | error e => simp
  | ok lo =>
    cases busRead s (s.sp + 1) with
    | error e => simp
    | ok hi =>
      simp only [Except.ok.injEq, Prod.mk.injEq, exists_eq_left', exists_and_left]
      exact ⟨fun h => ⟨h.1 ▸ rfl, h.2 ▸ rfl⟩, fun h => ⟨h.1 ▸ rfl, h.2 ▸ rfl⟩⟩

/-- A call: the return address pushed and PC at the target (R346). -/
theorem callTo_ok {target : Word} {s t : State} :
    callTo target s = .ok t ↔ ∃ u, push16 s s.pc = .ok u ∧ t = u.setPC target := by
  unfold callTo
  cases push16 s s.pc <;> simp [eq_comm]

/-- A return: PC popped (R348). -/
theorem returnFromCall_ok {s t : State} :
    returnFromCall s = .ok t ↔ ∃ u v, pop16 s = .ok (u, v) ∧ t = u.setPC v := by
  unfold returnFromCall
  cases h : pop16 s with
  | error e => simp
  | ok p => obtain ⟨u, v⟩ := p; simp [eq_comm]

/-- The return from an interrupt: as a return, and IME cleared (R352). -/
theorem returnFromInterrupt_ok {s t : State} :
    returnFromInterrupt s = .ok t ↔ ∃ u v, pop16 s = .ok (u, v) ∧ t = (u.setPC v).setIME false := by
  unfold returnFromInterrupt returnFromCall
  cases h : pop16 s with
  | error e => simp
  | ok p => obtain ⟨u, v⟩ := p; simp [eq_comm]

/-! ## Interrupts -/

/-- The scan finds a source exactly where one is set in both IE and IF (R412). -/
theorem readySource_ne_none (ifReg ieReg : Byte) :
    readySource ifReg ieReg ≠ none ↔
      ∃ i : IntSource, ieReg.getLsbD i.bit = true ∧ ifReg.getLsbD i.bit = true := by
  have hr (i : IntSource) : intReady ifReg ieReg i = true ↔
      ieReg.getLsbD i.bit = true ∧ ifReg.getLsbD i.bit = true := Bool.and_eq_true _ _ ▸ Iff.rfl
  simp only [← hr]
  unfold readySource
  constructor
  · intro h
    by_contra hc
    push Not at hc
    simp [firstReady, hc] at h
  · rintro ⟨i, hi⟩
    simp only [firstReady]
    cases i <;> split_ifs <;> simp_all

/-- Dispatch (R411): the state of the push, with PC at the vector and the dispatch charged. -/
theorem dispatch_ok {s t : State} {i : IntSource} :
    dispatch s i = .ok t ↔
      ∃ u, push16 { s with ifReg := s.ifReg &&& ~~~(1#8 <<< i.bit), ime := false, halted := false } s.pc = .ok u ∧
        t = { u with pc := i.vector, cycles := { u.cycles with dispatch := u.params.intDispatchCycles } } := by
  unfold dispatch
  cases push16 { s with ifReg := s.ifReg &&& ~~~(1#8 <<< i.bit), ime := false, halted := false } s.pc <;>
    simp [eq_comm]

/-- The interrupt check does one of two things: dispatch the ready source, or nothing (R412, R413). -/
theorem interruptCheck_ok {s t : State} :
    interruptCheck s = .ok t ↔
      (s.ime = true ∧ ∃ i, readySource s.ifReg s.ieReg = some i ∧ dispatch s i = .ok t) ∨
      ((s.ime = false ∨ readySource s.ifReg s.ieReg = none) ∧ t = s) := by
  unfold interruptCheck
  cases s.ime with
  | false => simp [eq_comm]
  | true => cases readySource s.ifReg s.ieReg <;> simp [eq_comm]

/-! ## The fetch -/

/-- Two states in which every bus read gives the same fetch the same bytes. -/
theorem fetchFrom_congr {s t : State} (h : ∀ a, busRead s a = busRead t a) (addr : Word) (k count : Nat) :
    fetchFrom s addr k count = fetchFrom t addr k count := by
  induction count generalizing k with
  | zero => rfl
  | succ n ih => simp only [fetchFrom, fetchByte, h, ih]

/-- Two states in which every bus read gives the same decode the same instruction. -/
theorem decodeAt_congr {s t : State} (h : ∀ a, busRead s a = busRead t a) (addr : Word) :
    fetch s addr = fetch t addr ∧ decodeAt s addr = decodeAt t addr := by
  have hf : fetch s addr = fetch t addr := by simp only [fetch, fetchByte, h, fetchFrom_congr h]
  exact ⟨hf, by simp only [decodeAt, hf]⟩

/-- The start of a step does not change what is fetched. -/
theorem busRead_beginStep (s : State) (a : Word) : busRead (beginStep s) a = busRead s a := rfl

/-! ## The step loop -/

theorem finishStep_next {s t : State} : finishStep s = .next t ↔ interruptCheck (updatePeriph s) = .ok t := done_next

/-- A step that answers a state ran the halted idle, or decoded one instruction and executed it; then came the
peripheral update and the interrupt check (R420). -/
theorem step_next {s t : State} :
    step s = .next t ↔
      (s.halted = true ∧ finishStep (haltedIdle (beginStep s)) = .next t) ∨
      (s.halted = false ∧ ∃ f u, decodeAt (beginStep s) s.pc = .ok f ∧
        exec f.instr (advance (beginStep s) f) = .next u ∧ finishStep u = .next t) := by
  unfold step stepWith
  by_cases hh : s.halted = true
  · rw [if_pos (show (beginStep s).halted = true from hh)]
    simp [hh]
  · rw [if_neg (show ¬(beginStep s).halted = true from hh), beginStep_pc]
    simp only [hh, true_and]
    cases decodeAt (beginStep s) s.pc with
    | error e => simp
    | ok f =>
      simp only [Except.ok.injEq, exists_eq_left', exists_and_left]
      cases exec f.instr (advance (beginStep s) f) <;> simp

end Sys2Proof.Machine
end

