-- ==== Sys2Proof/Laws/PerInstr.lean ====
section
/-! SUPPORT. Facts about every instruction as syntax, one lemma for each constructor. The family `Size`: how many
bytes the encoder writes (spec/30_encoding.md R120). -/

namespace Sys2Proof.Laws.Size

/-- An instruction is encoded in 1, 2 or 3 bytes (R120), and an undefined opcode in the one byte that names it
(R375). -/
def Statement (i : Instr) : Prop :=
  1 ≤ (encode i).length ∧ (encode i).length ≤ 3 ∧
    (∀ op, i.undefinedByte = some op → encode i = [op])

theorem nop : Statement .nop :=
  ⟨Nat.le_of_ble_eq_true rfl, Nat.le_of_ble_eq_true rfl, fun _ h => nomatch h⟩

theorem ldBCNN (nn : Word) : Statement (.ldBCNN nn) :=
  ⟨Nat.le_of_ble_eq_true rfl, Nat.le_of_ble_eq_true rfl, fun _ h => nomatch h⟩

theorem ldMBCA : Statement .ldMBCA :=
  ⟨Nat.le_of_ble_eq_true rfl, Nat.le_of_ble_eq_true rfl, fun _ h => nomatch h⟩

theorem incBC : Statement .incBC :=
  ⟨Nat.le_of_ble_eq_true rfl, Nat.le_of_ble_eq_true rfl, fun _ h => nomatch h⟩

theorem incB : Statement .incB :=
  ⟨Nat.le_of_ble_eq_true rfl, Nat.le_of_ble_eq_true rfl, fun _ h => nomatch h⟩

theorem decB : Statement .decB :=
  ⟨Nat.le_of_ble_eq_true rfl, Nat.le_of_ble_eq_true rfl, fun _ h => nomatch h⟩

theorem ldBN (n : Byte) : Statement (.ldBN n) :=
  ⟨Nat.le_of_ble_eq_true rfl, Nat.le_of_ble_eq_true rfl, fun _ h => nomatch h⟩

theorem rlca : Statement .rlca :=
  ⟨Nat.le_of_ble_eq_true rfl, Nat.le_of_ble_eq_true rfl, fun _ h => nomatch h⟩

theorem ldMNNSP (nn : Word) : Statement (.ldMNNSP nn) :=
  ⟨Nat.le_of_ble_eq_true rfl, Nat.le_of_ble_eq_true rfl, fun _ h => nomatch h⟩

theorem addHLBC : Statement .addHLBC :=
  ⟨Nat.le_of_ble_eq_true rfl, Nat.le_of_ble_eq_true rfl, fun _ h => nomatch h⟩

theorem ldAMBC : Statement .ldAMBC :=
  ⟨Nat.le_of_ble_eq_true rfl, Nat.le_of_ble_eq_true rfl, fun _ h => nomatch h⟩

theorem decBC : Statement .decBC :=
  ⟨Nat.le_of_ble_eq_true rfl, Nat.le_of_ble_eq_true rfl, fun _ h => nomatch h⟩

theorem incC : Statement .incC :=
  ⟨Nat.le_of_ble_eq_true rfl, Nat.le_of_ble_eq_true rfl, fun _ h => nomatch h⟩

theorem decC : Statement .decC :=
  ⟨Nat.le_of_ble_eq_true rfl, Nat.le_of_ble_eq_true rfl, fun _ h => nomatch h⟩

theorem ldCN (n : Byte) : Statement (.ldCN n) :=
  ⟨Nat.le_of_ble_eq_true rfl, Nat.le_of_ble_eq_true rfl, fun _ h => nomatch h⟩

theorem rrca : Statement .rrca :=
  ⟨Nat.le_of_ble_eq_true rfl, Nat.le_of_ble_eq_true rfl, fun _ h => nomatch h⟩

theorem stop (n : Byte) : Statement (.stop n) :=
  ⟨Nat.le_of_ble_eq_true rfl, Nat.le_of_ble_eq_true rfl, fun _ h => nomatch h⟩

theorem ldDENN (nn : Word) : Statement (.ldDENN nn) :=
  ⟨Nat.le_of_ble_eq_true rfl, Nat.le_of_ble_eq_true rfl, fun _ h => nomatch h⟩

theorem ldMDEA : Statement .ldMDEA :=
  ⟨Nat.le_of_ble_eq_true rfl, Nat.le_of_ble_eq_true rfl, fun _ h => nomatch h⟩

theorem incDE : Statement .incDE :=
  ⟨Nat.le_of_ble_eq_true rfl, Nat.le_of_ble_eq_true rfl, fun _ h => nomatch h⟩

theorem incD : Statement .incD :=
  ⟨Nat.le_of_ble_eq_true rfl, Nat.le_of_ble_eq_true rfl, fun _ h => nomatch h⟩

theorem decD : Statement .decD :=
  ⟨Nat.le_of_ble_eq_true rfl, Nat.le_of_ble_eq_true rfl, fun _ h => nomatch h⟩

theorem ldDN (n : Byte) : Statement (.ldDN n) :=
  ⟨Nat.le_of_ble_eq_true rfl, Nat.le_of_ble_eq_true rfl, fun _ h => nomatch h⟩

theorem rla : Statement .rla :=
  ⟨Nat.le_of_ble_eq_true rfl, Nat.le_of_ble_eq_true rfl, fun _ h => nomatch h⟩

theorem jrRel (e : Byte) : Statement (.jrRel e) :=
  ⟨Nat.le_of_ble_eq_true rfl, Nat.le_of_ble_eq_true rfl, fun _ h => nomatch h⟩

theorem addHLDE : Statement .addHLDE :=
  ⟨Nat.le_of_ble_eq_true rfl, Nat.le_of_ble_eq_true rfl, fun _ h => nomatch h⟩

theorem ldAMDE : Statement .ldAMDE :=
  ⟨Nat.le_of_ble_eq_true rfl, Nat.le_of_ble_eq_true rfl, fun _ h => nomatch h⟩

theorem decDE : Statement .decDE :=
  ⟨Nat.le_of_ble_eq_true rfl, Nat.le_of_ble_eq_true rfl, fun _ h => nomatch h⟩

theorem incE : Statement .incE :=
  ⟨Nat.le_of_ble_eq_true rfl, Nat.le_of_ble_eq_true rfl, fun _ h => nomatch h⟩

theorem decE : Statement .decE :=
  ⟨Nat.le_of_ble_eq_true rfl, Nat.le_of_ble_eq_true rfl, fun _ h => nomatch h⟩

theorem ldEN (n : Byte) : Statement (.ldEN n) :=
  ⟨Nat.le_of_ble_eq_true rfl, Nat.le_of_ble_eq_true rfl, fun _ h => nomatch h⟩

theorem rra : Statement .rra :=
  ⟨Nat.le_of_ble_eq_true rfl, Nat.le_of_ble_eq_true rfl, fun _ h => nomatch h⟩

theorem jrNZRel (e : Byte) : Statement (.jrNZRel e) :=
  ⟨Nat.le_of_ble_eq_true rfl, Nat.le_of_ble_eq_true rfl, fun _ h => nomatch h⟩

theorem ldHLNN (nn : Word) : Statement (.ldHLNN nn) :=
  ⟨Nat.le_of_ble_eq_true rfl, Nat.le_of_ble_eq_true rfl, fun _ h => nomatch h⟩

theorem ldMHLIncA : Statement .ldMHLIncA :=
  ⟨Nat.le_of_ble_eq_true rfl, Nat.le_of_ble_eq_true rfl, fun _ h => nomatch h⟩

theorem incHL : Statement .incHL :=
  ⟨Nat.le_of_ble_eq_true rfl, Nat.le_of_ble_eq_true rfl, fun _ h => nomatch h⟩

theorem incH : Statement .incH :=
  ⟨Nat.le_of_ble_eq_true rfl, Nat.le_of_ble_eq_true rfl, fun _ h => nomatch h⟩

theorem decH : Statement .decH :=
  ⟨Nat.le_of_ble_eq_true rfl, Nat.le_of_ble_eq_true rfl, fun _ h => nomatch h⟩

theorem ldHN (n : Byte) : Statement (.ldHN n) :=
  ⟨Nat.le_of_ble_eq_true rfl, Nat.le_of_ble_eq_true rfl, fun _ h => nomatch h⟩

theorem daa : Statement .daa :=
  ⟨Nat.le_of_ble_eq_true rfl, Nat.le_of_ble_eq_true rfl, fun _ h => nomatch h⟩

theorem jrZRel (e : Byte) : Statement (.jrZRel e) :=
  ⟨Nat.le_of_ble_eq_true rfl, Nat.le_of_ble_eq_true rfl, fun _ h => nomatch h⟩

theorem addHLHL : Statement .addHLHL :=
  ⟨Nat.le_of_ble_eq_true rfl, Nat.le_of_ble_eq_true rfl, fun _ h => nomatch h⟩

theorem ldAMHLInc : Statement .ldAMHLInc :=
  ⟨Nat.le_of_ble_eq_true rfl, Nat.le_of_ble_eq_true rfl, fun _ h => nomatch h⟩

theorem decHL : Statement .decHL :=
  ⟨Nat.le_of_ble_eq_true rfl, Nat.le_of_ble_eq_true rfl, fun _ h => nomatch h⟩

theorem incL : Statement .incL :=
  ⟨Nat.le_of_ble_eq_true rfl, Nat.le_of_ble_eq_true rfl, fun _ h => nomatch h⟩

theorem decL : Statement .decL :=
  ⟨Nat.le_of_ble_eq_true rfl, Nat.le_of_ble_eq_true rfl, fun _ h => nomatch h⟩

theorem ldLN (n : Byte) : Statement (.ldLN n) :=
  ⟨Nat.le_of_ble_eq_true rfl, Nat.le_of_ble_eq_true rfl, fun _ h => nomatch h⟩

theorem cpl : Statement .cpl :=
  ⟨Nat.le_of_ble_eq_true rfl, Nat.le_of_ble_eq_true rfl, fun _ h => nomatch h⟩

theorem jrNCRel (e : Byte) : Statement (.jrNCRel e) :=
  ⟨Nat.le_of_ble_eq_true rfl, Nat.le_of_ble_eq_true rfl, fun _ h => nomatch h⟩

theorem ldSPNN (nn : Word) : Statement (.ldSPNN nn) :=
  ⟨Nat.le_of_ble_eq_true rfl, Nat.le_of_ble_eq_true rfl, fun _ h => nomatch h⟩

theorem ldMHLDecA : Statement .ldMHLDecA :=
  ⟨Nat.le_of_ble_eq_true rfl, Nat.le_of_ble_eq_true rfl, fun _ h => nomatch h⟩

theorem incSP : Statement .incSP :=
  ⟨Nat.le_of_ble_eq_true rfl, Nat.le_of_ble_eq_true rfl, fun _ h => nomatch h⟩

theorem incMHL : Statement .incMHL :=
  ⟨Nat.le_of_ble_eq_true rfl, Nat.le_of_ble_eq_true rfl, fun _ h => nomatch h⟩

theorem decMHL : Statement .decMHL :=
  ⟨Nat.le_of_ble_eq_true rfl, Nat.le_of_ble_eq_true rfl, fun _ h => nomatch h⟩

theorem ldMHLN (n : Byte) : Statement (.ldMHLN n) :=
  ⟨Nat.le_of_ble_eq_true rfl, Nat.le_of_ble_eq_true rfl, fun _ h => nomatch h⟩

theorem scf : Statement .scf :=
  ⟨Nat.le_of_ble_eq_true rfl, Nat.le_of_ble_eq_true rfl, fun _ h => nomatch h⟩

theorem jrCRel (e : Byte) : Statement (.jrCRel e) :=
  ⟨Nat.le_of_ble_eq_true rfl, Nat.le_of_ble_eq_true rfl, fun _ h => nomatch h⟩

theorem addHLSP : Statement .addHLSP :=
  ⟨Nat.le_of_ble_eq_true rfl, Nat.le_of_ble_eq_true rfl, fun _ h => nomatch h⟩

theorem ldAMHLDec : Statement .ldAMHLDec :=
  ⟨Nat.le_of_ble_eq_true rfl, Nat.le_of_ble_eq_true rfl, fun _ h => nomatch h⟩

theorem decSP : Statement .decSP :=
  ⟨Nat.le_of_ble_eq_true rfl, Nat.le_of_ble_eq_true rfl, fun _ h => nomatch h⟩

theorem incA : Statement .incA :=
  ⟨Nat.le_of_ble_eq_true rfl, Nat.le_of_ble_eq_true rfl, fun _ h => nomatch h⟩

theorem decA : Statement .decA :=
  ⟨Nat.le_of_ble_eq_true rfl, Nat.le_of_ble_eq_true rfl, fun _ h => nomatch h⟩

theorem ldAN (n : Byte) : Statement (.ldAN n) :=
  ⟨Nat.le_of_ble_eq_true rfl, Nat.le_of_ble_eq_true rfl, fun _ h => nomatch h⟩

theorem ccf : Statement .ccf :=
  ⟨Nat.le_of_ble_eq_true rfl, Nat.le_of_ble_eq_true rfl, fun _ h => nomatch h⟩

theorem ldBB : Statement .ldBB :=
  ⟨Nat.le_of_ble_eq_true rfl, Nat.le_of_ble_eq_true rfl, fun _ h => nomatch h⟩

theorem ldBC : Statement .ldBC :=
  ⟨Nat.le_of_ble_eq_true rfl, Nat.le_of_ble_eq_true rfl, fun _ h => nomatch h⟩

theorem ldBD : Statement .ldBD :=
  ⟨Nat.le_of_ble_eq_true rfl, Nat.le_of_ble_eq_true rfl, fun _ h => nomatch h⟩

theorem ldBE : Statement .ldBE :=
  ⟨Nat.le_of_ble_eq_true rfl, Nat.le_of_ble_eq_true rfl, fun _ h => nomatch h⟩

theorem ldBH : Statement .ldBH :=
  ⟨Nat.le_of_ble_eq_true rfl, Nat.le_of_ble_eq_true rfl, fun _ h => nomatch h⟩

theorem ldBL : Statement .ldBL :=
  ⟨Nat.le_of_ble_eq_true rfl, Nat.le_of_ble_eq_true rfl, fun _ h => nomatch h⟩

theorem ldBMHL : Statement .ldBMHL :=
  ⟨Nat.le_of_ble_eq_true rfl, Nat.le_of_ble_eq_true rfl, fun _ h => nomatch h⟩

theorem ldBA : Statement .ldBA :=
  ⟨Nat.le_of_ble_eq_true rfl, Nat.le_of_ble_eq_true rfl, fun _ h => nomatch h⟩

theorem ldCB : Statement .ldCB :=
  ⟨Nat.le_of_ble_eq_true rfl, Nat.le_of_ble_eq_true rfl, fun _ h => nomatch h⟩

theorem ldCC : Statement .ldCC :=
  ⟨Nat.le_of_ble_eq_true rfl, Nat.le_of_ble_eq_true rfl, fun _ h => nomatch h⟩

theorem ldCD : Statement .ldCD :=
  ⟨Nat.le_of_ble_eq_true rfl, Nat.le_of_ble_eq_true rfl, fun _ h => nomatch h⟩

theorem ldCE : Statement .ldCE :=
  ⟨Nat.le_of_ble_eq_true rfl, Nat.le_of_ble_eq_true rfl, fun _ h => nomatch h⟩

theorem ldCH : Statement .ldCH :=
  ⟨Nat.le_of_ble_eq_true rfl, Nat.le_of_ble_eq_true rfl, fun _ h => nomatch h⟩

theorem ldCL : Statement .ldCL :=
  ⟨Nat.le_of_ble_eq_true rfl, Nat.le_of_ble_eq_true rfl, fun _ h => nomatch h⟩

theorem ldCMHL : Statement .ldCMHL :=
  ⟨Nat.le_of_ble_eq_true rfl, Nat.le_of_ble_eq_true rfl, fun _ h => nomatch h⟩

theorem ldCA : Statement .ldCA :=
  ⟨Nat.le_of_ble_eq_true rfl, Nat.le_of_ble_eq_true rfl, fun _ h => nomatch h⟩

theorem ldDB : Statement .ldDB :=
  ⟨Nat.le_of_ble_eq_true rfl, Nat.le_of_ble_eq_true rfl, fun _ h => nomatch h⟩

theorem ldDC : Statement .ldDC :=
  ⟨Nat.le_of_ble_eq_true rfl, Nat.le_of_ble_eq_true rfl, fun _ h => nomatch h⟩

theorem ldDD : Statement .ldDD :=
  ⟨Nat.le_of_ble_eq_true rfl, Nat.le_of_ble_eq_true rfl, fun _ h => nomatch h⟩

theorem ldDE : Statement .ldDE :=
  ⟨Nat.le_of_ble_eq_true rfl, Nat.le_of_ble_eq_true rfl, fun _ h => nomatch h⟩

theorem ldDH : Statement .ldDH :=
  ⟨Nat.le_of_ble_eq_true rfl, Nat.le_of_ble_eq_true rfl, fun _ h => nomatch h⟩

theorem ldDL : Statement .ldDL :=
  ⟨Nat.le_of_ble_eq_true rfl, Nat.le_of_ble_eq_true rfl, fun _ h => nomatch h⟩

theorem ldDMHL : Statement .ldDMHL :=
  ⟨Nat.le_of_ble_eq_true rfl, Nat.le_of_ble_eq_true rfl, fun _ h => nomatch h⟩

theorem ldDA : Statement .ldDA :=
  ⟨Nat.le_of_ble_eq_true rfl, Nat.le_of_ble_eq_true rfl, fun _ h => nomatch h⟩

theorem ldEB : Statement .ldEB :=
  ⟨Nat.le_of_ble_eq_true rfl, Nat.le_of_ble_eq_true rfl, fun _ h => nomatch h⟩

theorem ldEC : Statement .ldEC :=
  ⟨Nat.le_of_ble_eq_true rfl, Nat.le_of_ble_eq_true rfl, fun _ h => nomatch h⟩

theorem ldED : Statement .ldED :=
  ⟨Nat.le_of_ble_eq_true rfl, Nat.le_of_ble_eq_true rfl, fun _ h => nomatch h⟩

theorem ldEE : Statement .ldEE :=
  ⟨Nat.le_of_ble_eq_true rfl, Nat.le_of_ble_eq_true rfl, fun _ h => nomatch h⟩

theorem ldEH : Statement .ldEH :=
  ⟨Nat.le_of_ble_eq_true rfl, Nat.le_of_ble_eq_true rfl, fun _ h => nomatch h⟩

theorem ldEL : Statement .ldEL :=
  ⟨Nat.le_of_ble_eq_true rfl, Nat.le_of_ble_eq_true rfl, fun _ h => nomatch h⟩

theorem ldEMHL : Statement .ldEMHL :=
  ⟨Nat.le_of_ble_eq_true rfl, Nat.le_of_ble_eq_true rfl, fun _ h => nomatch h⟩

theorem ldEA : Statement .ldEA :=
  ⟨Nat.le_of_ble_eq_true rfl, Nat.le_of_ble_eq_true rfl, fun _ h => nomatch h⟩

theorem ldHB : Statement .ldHB :=
  ⟨Nat.le_of_ble_eq_true rfl, Nat.le_of_ble_eq_true rfl, fun _ h => nomatch h⟩

theorem ldHC : Statement .ldHC :=
  ⟨Nat.le_of_ble_eq_true rfl, Nat.le_of_ble_eq_true rfl, fun _ h => nomatch h⟩

theorem ldHD : Statement .ldHD :=
  ⟨Nat.le_of_ble_eq_true rfl, Nat.le_of_ble_eq_true rfl, fun _ h => nomatch h⟩

theorem ldHE : Statement .ldHE :=
  ⟨Nat.le_of_ble_eq_true rfl, Nat.le_of_ble_eq_true rfl, fun _ h => nomatch h⟩

theorem ldHH : Statement .ldHH :=
  ⟨Nat.le_of_ble_eq_true rfl, Nat.le_of_ble_eq_true rfl, fun _ h => nomatch h⟩

theorem ldHL : Statement .ldHL :=
  ⟨Nat.le_of_ble_eq_true rfl, Nat.le_of_ble_eq_true rfl, fun _ h => nomatch h⟩

theorem ldHMHL : Statement .ldHMHL :=
  ⟨Nat.le_of_ble_eq_true rfl, Nat.le_of_ble_eq_true rfl, fun _ h => nomatch h⟩

theorem ldHA : Statement .ldHA :=
  ⟨Nat.le_of_ble_eq_true rfl, Nat.le_of_ble_eq_true rfl, fun _ h => nomatch h⟩

theorem ldLB : Statement .ldLB :=
  ⟨Nat.le_of_ble_eq_true rfl, Nat.le_of_ble_eq_true rfl, fun _ h => nomatch h⟩

theorem ldLC : Statement .ldLC :=
  ⟨Nat.le_of_ble_eq_true rfl, Nat.le_of_ble_eq_true rfl, fun _ h => nomatch h⟩

theorem ldLD : Statement .ldLD :=
  ⟨Nat.le_of_ble_eq_true rfl, Nat.le_of_ble_eq_true rfl, fun _ h => nomatch h⟩

theorem ldLE : Statement .ldLE :=
  ⟨Nat.le_of_ble_eq_true rfl, Nat.le_of_ble_eq_true rfl, fun _ h => nomatch h⟩

theorem ldLH : Statement .ldLH :=
  ⟨Nat.le_of_ble_eq_true rfl, Nat.le_of_ble_eq_true rfl, fun _ h => nomatch h⟩

theorem ldLL : Statement .ldLL :=
  ⟨Nat.le_of_ble_eq_true rfl, Nat.le_of_ble_eq_true rfl, fun _ h => nomatch h⟩

theorem ldLMHL : Statement .ldLMHL :=
  ⟨Nat.le_of_ble_eq_true rfl, Nat.le_of_ble_eq_true rfl, fun _ h => nomatch h⟩

theorem ldLA : Statement .ldLA :=
  ⟨Nat.le_of_ble_eq_true rfl, Nat.le_of_ble_eq_true rfl, fun _ h => nomatch h⟩

theorem ldMHLB : Statement .ldMHLB :=
  ⟨Nat.le_of_ble_eq_true rfl, Nat.le_of_ble_eq_true rfl, fun _ h => nomatch h⟩

theorem ldMHLC : Statement .ldMHLC :=
  ⟨Nat.le_of_ble_eq_true rfl, Nat.le_of_ble_eq_true rfl, fun _ h => nomatch h⟩

theorem ldMHLD : Statement .ldMHLD :=
  ⟨Nat.le_of_ble_eq_true rfl, Nat.le_of_ble_eq_true rfl, fun _ h => nomatch h⟩

theorem ldMHLE : Statement .ldMHLE :=
  ⟨Nat.le_of_ble_eq_true rfl, Nat.le_of_ble_eq_true rfl, fun _ h => nomatch h⟩

theorem ldMHLH : Statement .ldMHLH :=
  ⟨Nat.le_of_ble_eq_true rfl, Nat.le_of_ble_eq_true rfl, fun _ h => nomatch h⟩

theorem ldMHLL : Statement .ldMHLL :=
  ⟨Nat.le_of_ble_eq_true rfl, Nat.le_of_ble_eq_true rfl, fun _ h => nomatch h⟩

theorem halt : Statement .halt :=
  ⟨Nat.le_of_ble_eq_true rfl, Nat.le_of_ble_eq_true rfl, fun _ h => nomatch h⟩

theorem ldMHLA : Statement .ldMHLA :=
  ⟨Nat.le_of_ble_eq_true rfl, Nat.le_of_ble_eq_true rfl, fun _ h => nomatch h⟩

theorem ldAB : Statement .ldAB :=
  ⟨Nat.le_of_ble_eq_true rfl, Nat.le_of_ble_eq_true rfl, fun _ h => nomatch h⟩

theorem ldAC : Statement .ldAC :=
  ⟨Nat.le_of_ble_eq_true rfl, Nat.le_of_ble_eq_true rfl, fun _ h => nomatch h⟩

theorem ldAD : Statement .ldAD :=
  ⟨Nat.le_of_ble_eq_true rfl, Nat.le_of_ble_eq_true rfl, fun _ h => nomatch h⟩

theorem ldAE : Statement .ldAE :=
  ⟨Nat.le_of_ble_eq_true rfl, Nat.le_of_ble_eq_true rfl, fun _ h => nomatch h⟩

theorem ldAH : Statement .ldAH :=
  ⟨Nat.le_of_ble_eq_true rfl, Nat.le_of_ble_eq_true rfl, fun _ h => nomatch h⟩

theorem ldAL : Statement .ldAL :=
  ⟨Nat.le_of_ble_eq_true rfl, Nat.le_of_ble_eq_true rfl, fun _ h => nomatch h⟩

theorem ldAMHL : Statement .ldAMHL :=
  ⟨Nat.le_of_ble_eq_true rfl, Nat.le_of_ble_eq_true rfl, fun _ h => nomatch h⟩

theorem ldAA : Statement .ldAA :=
  ⟨Nat.le_of_ble_eq_true rfl, Nat.le_of_ble_eq_true rfl, fun _ h => nomatch h⟩

theorem addAB : Statement .addAB :=
  ⟨Nat.le_of_ble_eq_true rfl, Nat.le_of_ble_eq_true rfl, fun _ h => nomatch h⟩

theorem addAC : Statement .addAC :=
  ⟨Nat.le_of_ble_eq_true rfl, Nat.le_of_ble_eq_true rfl, fun _ h => nomatch h⟩

theorem addAD : Statement .addAD :=
  ⟨Nat.le_of_ble_eq_true rfl, Nat.le_of_ble_eq_true rfl, fun _ h => nomatch h⟩

theorem addAE : Statement .addAE :=
  ⟨Nat.le_of_ble_eq_true rfl, Nat.le_of_ble_eq_true rfl, fun _ h => nomatch h⟩

theorem addAH : Statement .addAH :=
  ⟨Nat.le_of_ble_eq_true rfl, Nat.le_of_ble_eq_true rfl, fun _ h => nomatch h⟩

theorem addAL : Statement .addAL :=
  ⟨Nat.le_of_ble_eq_true rfl, Nat.le_of_ble_eq_true rfl, fun _ h => nomatch h⟩

theorem addAMHL : Statement .addAMHL :=
  ⟨Nat.le_of_ble_eq_true rfl, Nat.le_of_ble_eq_true rfl, fun _ h => nomatch h⟩

theorem addAA : Statement .addAA :=
  ⟨Nat.le_of_ble_eq_true rfl, Nat.le_of_ble_eq_true rfl, fun _ h => nomatch h⟩

theorem adcAB : Statement .adcAB :=
  ⟨Nat.le_of_ble_eq_true rfl, Nat.le_of_ble_eq_true rfl, fun _ h => nomatch h⟩

theorem adcAC : Statement .adcAC :=
  ⟨Nat.le_of_ble_eq_true rfl, Nat.le_of_ble_eq_true rfl, fun _ h => nomatch h⟩

theorem adcAD : Statement .adcAD :=
  ⟨Nat.le_of_ble_eq_true rfl, Nat.le_of_ble_eq_true rfl, fun _ h => nomatch h⟩

theorem adcAE : Statement .adcAE :=
  ⟨Nat.le_of_ble_eq_true rfl, Nat.le_of_ble_eq_true rfl, fun _ h => nomatch h⟩

theorem adcAH : Statement .adcAH :=
  ⟨Nat.le_of_ble_eq_true rfl, Nat.le_of_ble_eq_true rfl, fun _ h => nomatch h⟩

theorem adcAL : Statement .adcAL :=
  ⟨Nat.le_of_ble_eq_true rfl, Nat.le_of_ble_eq_true rfl, fun _ h => nomatch h⟩

theorem adcAMHL : Statement .adcAMHL :=
  ⟨Nat.le_of_ble_eq_true rfl, Nat.le_of_ble_eq_true rfl, fun _ h => nomatch h⟩

theorem adcAA : Statement .adcAA :=
  ⟨Nat.le_of_ble_eq_true rfl, Nat.le_of_ble_eq_true rfl, fun _ h => nomatch h⟩

theorem subB : Statement .subB :=
  ⟨Nat.le_of_ble_eq_true rfl, Nat.le_of_ble_eq_true rfl, fun _ h => nomatch h⟩

theorem subC : Statement .subC :=
  ⟨Nat.le_of_ble_eq_true rfl, Nat.le_of_ble_eq_true rfl, fun _ h => nomatch h⟩

theorem subD : Statement .subD :=
  ⟨Nat.le_of_ble_eq_true rfl, Nat.le_of_ble_eq_true rfl, fun _ h => nomatch h⟩

theorem subE : Statement .subE :=
  ⟨Nat.le_of_ble_eq_true rfl, Nat.le_of_ble_eq_true rfl, fun _ h => nomatch h⟩

theorem subH : Statement .subH :=
  ⟨Nat.le_of_ble_eq_true rfl, Nat.le_of_ble_eq_true rfl, fun _ h => nomatch h⟩

theorem subL : Statement .subL :=
  ⟨Nat.le_of_ble_eq_true rfl, Nat.le_of_ble_eq_true rfl, fun _ h => nomatch h⟩

theorem subMHL : Statement .subMHL :=
  ⟨Nat.le_of_ble_eq_true rfl, Nat.le_of_ble_eq_true rfl, fun _ h => nomatch h⟩

theorem subA : Statement .subA :=
  ⟨Nat.le_of_ble_eq_true rfl, Nat.le_of_ble_eq_true rfl, fun _ h => nomatch h⟩

theorem sbcAB : Statement .sbcAB :=
  ⟨Nat.le_of_ble_eq_true rfl, Nat.le_of_ble_eq_true rfl, fun _ h => nomatch h⟩

theorem sbcAC : Statement .sbcAC :=
  ⟨Nat.le_of_ble_eq_true rfl, Nat.le_of_ble_eq_true rfl, fun _ h => nomatch h⟩

theorem sbcAD : Statement .sbcAD :=
  ⟨Nat.le_of_ble_eq_true rfl, Nat.le_of_ble_eq_true rfl, fun _ h => nomatch h⟩

theorem sbcAE : Statement .sbcAE :=
  ⟨Nat.le_of_ble_eq_true rfl, Nat.le_of_ble_eq_true rfl, fun _ h => nomatch h⟩

theorem sbcAH : Statement .sbcAH :=
  ⟨Nat.le_of_ble_eq_true rfl, Nat.le_of_ble_eq_true rfl, fun _ h => nomatch h⟩

theorem sbcAL : Statement .sbcAL :=
  ⟨Nat.le_of_ble_eq_true rfl, Nat.le_of_ble_eq_true rfl, fun _ h => nomatch h⟩

theorem sbcAMHL : Statement .sbcAMHL :=
  ⟨Nat.le_of_ble_eq_true rfl, Nat.le_of_ble_eq_true rfl, fun _ h => nomatch h⟩

theorem sbcAA : Statement .sbcAA :=
  ⟨Nat.le_of_ble_eq_true rfl, Nat.le_of_ble_eq_true rfl, fun _ h => nomatch h⟩

theorem andB : Statement .andB :=
  ⟨Nat.le_of_ble_eq_true rfl, Nat.le_of_ble_eq_true rfl, fun _ h => nomatch h⟩

theorem andC : Statement .andC :=
  ⟨Nat.le_of_ble_eq_true rfl, Nat.le_of_ble_eq_true rfl, fun _ h => nomatch h⟩

theorem andD : Statement .andD :=
  ⟨Nat.le_of_ble_eq_true rfl, Nat.le_of_ble_eq_true rfl, fun _ h => nomatch h⟩

theorem andE : Statement .andE :=
  ⟨Nat.le_of_ble_eq_true rfl, Nat.le_of_ble_eq_true rfl, fun _ h => nomatch h⟩

theorem andH : Statement .andH :=
  ⟨Nat.le_of_ble_eq_true rfl, Nat.le_of_ble_eq_true rfl, fun _ h => nomatch h⟩

theorem andL : Statement .andL :=
  ⟨Nat.le_of_ble_eq_true rfl, Nat.le_of_ble_eq_true rfl, fun _ h => nomatch h⟩

theorem andMHL : Statement .andMHL :=
  ⟨Nat.le_of_ble_eq_true rfl, Nat.le_of_ble_eq_true rfl, fun _ h => nomatch h⟩

theorem andA : Statement .andA :=
  ⟨Nat.le_of_ble_eq_true rfl, Nat.le_of_ble_eq_true rfl, fun _ h => nomatch h⟩

theorem xorB : Statement .xorB :=
  ⟨Nat.le_of_ble_eq_true rfl, Nat.le_of_ble_eq_true rfl, fun _ h => nomatch h⟩

theorem xorC : Statement .xorC :=
  ⟨Nat.le_of_ble_eq_true rfl, Nat.le_of_ble_eq_true rfl, fun _ h => nomatch h⟩

theorem xorD : Statement .xorD :=
  ⟨Nat.le_of_ble_eq_true rfl, Nat.le_of_ble_eq_true rfl, fun _ h => nomatch h⟩

theorem xorE : Statement .xorE :=
  ⟨Nat.le_of_ble_eq_true rfl, Nat.le_of_ble_eq_true rfl, fun _ h => nomatch h⟩

theorem xorH : Statement .xorH :=
  ⟨Nat.le_of_ble_eq_true rfl, Nat.le_of_ble_eq_true rfl, fun _ h => nomatch h⟩

theorem xorL : Statement .xorL :=
  ⟨Nat.le_of_ble_eq_true rfl, Nat.le_of_ble_eq_true rfl, fun _ h => nomatch h⟩

theorem xorMHL : Statement .xorMHL :=
  ⟨Nat.le_of_ble_eq_true rfl, Nat.le_of_ble_eq_true rfl, fun _ h => nomatch h⟩

theorem xorA : Statement .xorA :=
  ⟨Nat.le_of_ble_eq_true rfl, Nat.le_of_ble_eq_true rfl, fun _ h => nomatch h⟩

theorem orB : Statement .orB :=
  ⟨Nat.le_of_ble_eq_true rfl, Nat.le_of_ble_eq_true rfl, fun _ h => nomatch h⟩

theorem orC : Statement .orC :=
  ⟨Nat.le_of_ble_eq_true rfl, Nat.le_of_ble_eq_true rfl, fun _ h => nomatch h⟩

theorem orD : Statement .orD :=
  ⟨Nat.le_of_ble_eq_true rfl, Nat.le_of_ble_eq_true rfl, fun _ h => nomatch h⟩

theorem orE : Statement .orE :=
  ⟨Nat.le_of_ble_eq_true rfl, Nat.le_of_ble_eq_true rfl, fun _ h => nomatch h⟩

theorem orH : Statement .orH :=
  ⟨Nat.le_of_ble_eq_true rfl, Nat.le_of_ble_eq_true rfl, fun _ h => nomatch h⟩

theorem orL : Statement .orL :=
  ⟨Nat.le_of_ble_eq_true rfl, Nat.le_of_ble_eq_true rfl, fun _ h => nomatch h⟩

theorem orMHL : Statement .orMHL :=
  ⟨Nat.le_of_ble_eq_true rfl, Nat.le_of_ble_eq_true rfl, fun _ h => nomatch h⟩

theorem orA : Statement .orA :=
  ⟨Nat.le_of_ble_eq_true rfl, Nat.le_of_ble_eq_true rfl, fun _ h => nomatch h⟩

theorem cpB : Statement .cpB :=
  ⟨Nat.le_of_ble_eq_true rfl, Nat.le_of_ble_eq_true rfl, fun _ h => nomatch h⟩

theorem cpC : Statement .cpC :=
  ⟨Nat.le_of_ble_eq_true rfl, Nat.le_of_ble_eq_true rfl, fun _ h => nomatch h⟩

theorem cpD : Statement .cpD :=
  ⟨Nat.le_of_ble_eq_true rfl, Nat.le_of_ble_eq_true rfl, fun _ h => nomatch h⟩

theorem cpE : Statement .cpE :=
  ⟨Nat.le_of_ble_eq_true rfl, Nat.le_of_ble_eq_true rfl, fun _ h => nomatch h⟩

theorem cpH : Statement .cpH :=
  ⟨Nat.le_of_ble_eq_true rfl, Nat.le_of_ble_eq_true rfl, fun _ h => nomatch h⟩

theorem cpL : Statement .cpL :=
  ⟨Nat.le_of_ble_eq_true rfl, Nat.le_of_ble_eq_true rfl, fun _ h => nomatch h⟩

theorem cpMHL : Statement .cpMHL :=
  ⟨Nat.le_of_ble_eq_true rfl, Nat.le_of_ble_eq_true rfl, fun _ h => nomatch h⟩

theorem cpA : Statement .cpA :=
  ⟨Nat.le_of_ble_eq_true rfl, Nat.le_of_ble_eq_true rfl, fun _ h => nomatch h⟩

theorem retNZ : Statement .retNZ :=
  ⟨Nat.le_of_ble_eq_true rfl, Nat.le_of_ble_eq_true rfl, fun _ h => nomatch h⟩

theorem popBC : Statement .popBC :=
  ⟨Nat.le_of_ble_eq_true rfl, Nat.le_of_ble_eq_true rfl, fun _ h => nomatch h⟩

theorem jpNZNN (nn : Word) : Statement (.jpNZNN nn) :=
  ⟨Nat.le_of_ble_eq_true rfl, Nat.le_of_ble_eq_true rfl, fun _ h => nomatch h⟩

theorem jpNN (nn : Word) : Statement (.jpNN nn) :=
  ⟨Nat.le_of_ble_eq_true rfl, Nat.le_of_ble_eq_true rfl, fun _ h => nomatch h⟩

theorem callNZNN (nn : Word) : Statement (.callNZNN nn) :=
  ⟨Nat.le_of_ble_eq_true rfl, Nat.le_of_ble_eq_true rfl, fun _ h => nomatch h⟩

theorem pushBC : Statement .pushBC :=
  ⟨Nat.le_of_ble_eq_true rfl, Nat.le_of_ble_eq_true rfl, fun _ h => nomatch h⟩

theorem addAN (n : Byte) : Statement (.addAN n) :=
  ⟨Nat.le_of_ble_eq_true rfl, Nat.le_of_ble_eq_true rfl, fun _ h => nomatch h⟩

theorem rst00 : Statement .rst00 :=
  ⟨Nat.le_of_ble_eq_true rfl, Nat.le_of_ble_eq_true rfl, fun _ h => nomatch h⟩

theorem retZ : Statement .retZ :=
  ⟨Nat.le_of_ble_eq_true rfl, Nat.le_of_ble_eq_true rfl, fun _ h => nomatch h⟩

theorem ret : Statement .ret :=
  ⟨Nat.le_of_ble_eq_true rfl, Nat.le_of_ble_eq_true rfl, fun _ h => nomatch h⟩

theorem jpZNN (nn : Word) : Statement (.jpZNN nn) :=
  ⟨Nat.le_of_ble_eq_true rfl, Nat.le_of_ble_eq_true rfl, fun _ h => nomatch h⟩

theorem prefixCB (second : Byte) : Statement (.prefixCB second) :=
  ⟨Nat.le_of_ble_eq_true rfl, Nat.le_of_ble_eq_true rfl, fun _ h => nomatch h⟩

theorem callZNN (nn : Word) : Statement (.callZNN nn) :=
  ⟨Nat.le_of_ble_eq_true rfl, Nat.le_of_ble_eq_true rfl, fun _ h => nomatch h⟩

theorem callNN (nn : Word) : Statement (.callNN nn) :=
  ⟨Nat.le_of_ble_eq_true rfl, Nat.le_of_ble_eq_true rfl, fun _ h => nomatch h⟩

theorem adcAN (n : Byte) : Statement (.adcAN n) :=
  ⟨Nat.le_of_ble_eq_true rfl, Nat.le_of_ble_eq_true rfl, fun _ h => nomatch h⟩

theorem rst08 : Statement .rst08 :=
  ⟨Nat.le_of_ble_eq_true rfl, Nat.le_of_ble_eq_true rfl, fun _ h => nomatch h⟩

theorem retNC : Statement .retNC :=
  ⟨Nat.le_of_ble_eq_true rfl, Nat.le_of_ble_eq_true rfl, fun _ h => nomatch h⟩

theorem popDE : Statement .popDE :=
  ⟨Nat.le_of_ble_eq_true rfl, Nat.le_of_ble_eq_true rfl, fun _ h => nomatch h⟩

theorem jpNCNN (nn : Word) : Statement (.jpNCNN nn) :=
  ⟨Nat.le_of_ble_eq_true rfl, Nat.le_of_ble_eq_true rfl, fun _ h => nomatch h⟩

theorem undefD3 : Statement .undefD3 :=
  ⟨Nat.le_of_ble_eq_true rfl, Nat.le_of_ble_eq_true rfl, fun _ h => by cases h; rfl⟩

theorem callNCNN (nn : Word) : Statement (.callNCNN nn) :=
  ⟨Nat.le_of_ble_eq_true rfl, Nat.le_of_ble_eq_true rfl, fun _ h => nomatch h⟩

theorem pushDE : Statement .pushDE :=
  ⟨Nat.le_of_ble_eq_true rfl, Nat.le_of_ble_eq_true rfl, fun _ h => nomatch h⟩

theorem subN (n : Byte) : Statement (.subN n) :=
  ⟨Nat.le_of_ble_eq_true rfl, Nat.le_of_ble_eq_true rfl, fun _ h => nomatch h⟩

theorem rst10 : Statement .rst10 :=
  ⟨Nat.le_of_ble_eq_true rfl, Nat.le_of_ble_eq_true rfl, fun _ h => nomatch h⟩

theorem retC : Statement .retC :=
  ⟨Nat.le_of_ble_eq_true rfl, Nat.le_of_ble_eq_true rfl, fun _ h => nomatch h⟩

theorem reti : Statement .reti :=
  ⟨Nat.le_of_ble_eq_true rfl, Nat.le_of_ble_eq_true rfl, fun _ h => nomatch h⟩

theorem jpCNN (nn : Word) : Statement (.jpCNN nn) :=
  ⟨Nat.le_of_ble_eq_true rfl, Nat.le_of_ble_eq_true rfl, fun _ h => nomatch h⟩

theorem undefDB : Statement .undefDB :=
  ⟨Nat.le_of_ble_eq_true rfl, Nat.le_of_ble_eq_true rfl, fun _ h => by cases h; rfl⟩

theorem callCNN (nn : Word) : Statement (.callCNN nn) :=
  ⟨Nat.le_of_ble_eq_true rfl, Nat.le_of_ble_eq_true rfl, fun _ h => nomatch h⟩

theorem undefDD : Statement .undefDD :=
  ⟨Nat.le_of_ble_eq_true rfl, Nat.le_of_ble_eq_true rfl, fun _ h => by cases h; rfl⟩

theorem sbcAN (n : Byte) : Statement (.sbcAN n) :=
  ⟨Nat.le_of_ble_eq_true rfl, Nat.le_of_ble_eq_true rfl, fun _ h => nomatch h⟩

theorem rst18 : Statement .rst18 :=
  ⟨Nat.le_of_ble_eq_true rfl, Nat.le_of_ble_eq_true rfl, fun _ h => nomatch h⟩

theorem ldhMNA (n : Byte) : Statement (.ldhMNA n) :=
  ⟨Nat.le_of_ble_eq_true rfl, Nat.le_of_ble_eq_true rfl, fun _ h => nomatch h⟩

theorem popHL : Statement .popHL :=
  ⟨Nat.le_of_ble_eq_true rfl, Nat.le_of_ble_eq_true rfl, fun _ h => nomatch h⟩

theorem ldMCA : Statement .ldMCA :=
  ⟨Nat.le_of_ble_eq_true rfl, Nat.le_of_ble_eq_true rfl, fun _ h => nomatch h⟩

theorem undefE3 : Statement .undefE3 :=
  ⟨Nat.le_of_ble_eq_true rfl, Nat.le_of_ble_eq_true rfl, fun _ h => by cases h; rfl⟩

theorem undefE4 : Statement .undefE4 :=
  ⟨Nat.le_of_ble_eq_true rfl, Nat.le_of_ble_eq_true rfl, fun _ h => by cases h; rfl⟩

theorem pushHL : Statement .pushHL :=
  ⟨Nat.le_of_ble_eq_true rfl, Nat.le_of_ble_eq_true rfl, fun _ h => nomatch h⟩

theorem andN (n : Byte) : Statement (.andN n) :=
  ⟨Nat.le_of_ble_eq_true rfl, Nat.le_of_ble_eq_true rfl, fun _ h => nomatch h⟩

theorem rst20 : Statement .rst20 :=
  ⟨Nat.le_of_ble_eq_true rfl, Nat.le_of_ble_eq_true rfl, fun _ h => nomatch h⟩

theorem addSPRel (e : Byte) : Statement (.addSPRel e) :=
  ⟨Nat.le_of_ble_eq_true rfl, Nat.le_of_ble_eq_true rfl, fun _ h => nomatch h⟩

theorem jpHL : Statement .jpHL :=
  ⟨Nat.le_of_ble_eq_true rfl, Nat.le_of_ble_eq_true rfl, fun _ h => nomatch h⟩

theorem ldMNNA (nn : Word) : Statement (.ldMNNA nn) :=
  ⟨Nat.le_of_ble_eq_true rfl, Nat.le_of_ble_eq_true rfl, fun _ h => nomatch h⟩

theorem undefEB : Statement .undefEB :=
  ⟨Nat.le_of_ble_eq_true rfl, Nat.le_of_ble_eq_true rfl, fun _ h => by cases h; rfl⟩

theorem undefEC : Statement .undefEC :=
  ⟨Nat.le_of_ble_eq_true rfl, Nat.le_of_ble_eq_true rfl, fun _ h => by cases h; rfl⟩

theorem undefED : Statement .undefED :=
  ⟨Nat.le_of_ble_eq_true rfl, Nat.le_of_ble_eq_true rfl, fun _ h => by cases h; rfl⟩

theorem xorN (n : Byte) : Statement (.xorN n) :=
  ⟨Nat.le_of_ble_eq_true rfl, Nat.le_of_ble_eq_true rfl, fun _ h => nomatch h⟩

theorem rst28 : Statement .rst28 :=
  ⟨Nat.le_of_ble_eq_true rfl, Nat.le_of_ble_eq_true rfl, fun _ h => nomatch h⟩

theorem ldhAMN (n : Byte) : Statement (.ldhAMN n) :=
  ⟨Nat.le_of_ble_eq_true rfl, Nat.le_of_ble_eq_true rfl, fun _ h => nomatch h⟩

theorem popAF : Statement .popAF :=
  ⟨Nat.le_of_ble_eq_true rfl, Nat.le_of_ble_eq_true rfl, fun _ h => nomatch h⟩

theorem ldAMC : Statement .ldAMC :=
  ⟨Nat.le_of_ble_eq_true rfl, Nat.le_of_ble_eq_true rfl, fun _ h => nomatch h⟩

theorem di : Statement .di :=
  ⟨Nat.le_of_ble_eq_true rfl, Nat.le_of_ble_eq_true rfl, fun _ h => nomatch h⟩

theorem undefF4 : Statement .undefF4 :=
  ⟨Nat.le_of_ble_eq_true rfl, Nat.le_of_ble_eq_true rfl, fun _ h => by cases h; rfl⟩

theorem pushAF : Statement .pushAF :=
  ⟨Nat.le_of_ble_eq_true rfl, Nat.le_of_ble_eq_true rfl, fun _ h => nomatch h⟩

theorem orN (n : Byte) : Statement (.orN n) :=
  ⟨Nat.le_of_ble_eq_true rfl, Nat.le_of_ble_eq_true rfl, fun _ h => nomatch h⟩

theorem rst30 : Statement .rst30 :=
  ⟨Nat.le_of_ble_eq_true rfl, Nat.le_of_ble_eq_true rfl, fun _ h => nomatch h⟩

theorem ldHLSPRel (e : Byte) : Statement (.ldHLSPRel e) :=
  ⟨Nat.le_of_ble_eq_true rfl, Nat.le_of_ble_eq_true rfl, fun _ h => nomatch h⟩

theorem ldSPHL : Statement .ldSPHL :=
  ⟨Nat.le_of_ble_eq_true rfl, Nat.le_of_ble_eq_true rfl, fun _ h => nomatch h⟩

theorem ldAMNN (nn : Word) : Statement (.ldAMNN nn) :=
  ⟨Nat.le_of_ble_eq_true rfl, Nat.le_of_ble_eq_true rfl, fun _ h => nomatch h⟩

theorem ei : Statement .ei :=
  ⟨Nat.le_of_ble_eq_true rfl, Nat.le_of_ble_eq_true rfl, fun _ h => nomatch h⟩

theorem undefFC : Statement .undefFC :=
  ⟨Nat.le_of_ble_eq_true rfl, Nat.le_of_ble_eq_true rfl, fun _ h => by cases h; rfl⟩

theorem undefFD : Statement .undefFD :=
  ⟨Nat.le_of_ble_eq_true rfl, Nat.le_of_ble_eq_true rfl, fun _ h => by cases h; rfl⟩

theorem cpN (n : Byte) : Statement (.cpN n) :=
  ⟨Nat.le_of_ble_eq_true rfl, Nat.le_of_ble_eq_true rfl, fun _ h => nomatch h⟩

theorem rst38 : Statement .rst38 :=
  ⟨Nat.le_of_ble_eq_true rfl, Nat.le_of_ble_eq_true rfl, fun _ h => nomatch h⟩

theorem rlcB : Statement .rlcB :=
  ⟨Nat.le_of_ble_eq_true rfl, Nat.le_of_ble_eq_true rfl, fun _ h => nomatch h⟩

theorem rlcC : Statement .rlcC :=
  ⟨Nat.le_of_ble_eq_true rfl, Nat.le_of_ble_eq_true rfl, fun _ h => nomatch h⟩

theorem rlcD : Statement .rlcD :=
  ⟨Nat.le_of_ble_eq_true rfl, Nat.le_of_ble_eq_true rfl, fun _ h => nomatch h⟩

theorem rlcE : Statement .rlcE :=
  ⟨Nat.le_of_ble_eq_true rfl, Nat.le_of_ble_eq_true rfl, fun _ h => nomatch h⟩

theorem rlcH : Statement .rlcH :=
  ⟨Nat.le_of_ble_eq_true rfl, Nat.le_of_ble_eq_true rfl, fun _ h => nomatch h⟩

theorem rlcL : Statement .rlcL :=
  ⟨Nat.le_of_ble_eq_true rfl, Nat.le_of_ble_eq_true rfl, fun _ h => nomatch h⟩

theorem rlcMHL : Statement .rlcMHL :=
  ⟨Nat.le_of_ble_eq_true rfl, Nat.le_of_ble_eq_true rfl, fun _ h => nomatch h⟩

theorem rlcA : Statement .rlcA :=
  ⟨Nat.le_of_ble_eq_true rfl, Nat.le_of_ble_eq_true rfl, fun _ h => nomatch h⟩

theorem rrcB : Statement .rrcB :=
  ⟨Nat.le_of_ble_eq_true rfl, Nat.le_of_ble_eq_true rfl, fun _ h => nomatch h⟩

theorem rrcC : Statement .rrcC :=
  ⟨Nat.le_of_ble_eq_true rfl, Nat.le_of_ble_eq_true rfl, fun _ h => nomatch h⟩

theorem rrcD : Statement .rrcD :=
  ⟨Nat.le_of_ble_eq_true rfl, Nat.le_of_ble_eq_true rfl, fun _ h => nomatch h⟩

theorem rrcE : Statement .rrcE :=
  ⟨Nat.le_of_ble_eq_true rfl, Nat.le_of_ble_eq_true rfl, fun _ h => nomatch h⟩

theorem rrcH : Statement .rrcH :=
  ⟨Nat.le_of_ble_eq_true rfl, Nat.le_of_ble_eq_true rfl, fun _ h => nomatch h⟩

theorem rrcL : Statement .rrcL :=
  ⟨Nat.le_of_ble_eq_true rfl, Nat.le_of_ble_eq_true rfl, fun _ h => nomatch h⟩

theorem rrcMHL : Statement .rrcMHL :=
  ⟨Nat.le_of_ble_eq_true rfl, Nat.le_of_ble_eq_true rfl, fun _ h => nomatch h⟩

theorem rrcA : Statement .rrcA :=
  ⟨Nat.le_of_ble_eq_true rfl, Nat.le_of_ble_eq_true rfl, fun _ h => nomatch h⟩

theorem rlB : Statement .rlB :=
  ⟨Nat.le_of_ble_eq_true rfl, Nat.le_of_ble_eq_true rfl, fun _ h => nomatch h⟩

theorem rlC : Statement .rlC :=
  ⟨Nat.le_of_ble_eq_true rfl, Nat.le_of_ble_eq_true rfl, fun _ h => nomatch h⟩

theorem rlD : Statement .rlD :=
  ⟨Nat.le_of_ble_eq_true rfl, Nat.le_of_ble_eq_true rfl, fun _ h => nomatch h⟩

theorem rlE : Statement .rlE :=
  ⟨Nat.le_of_ble_eq_true rfl, Nat.le_of_ble_eq_true rfl, fun _ h => nomatch h⟩

theorem rlH : Statement .rlH :=
  ⟨Nat.le_of_ble_eq_true rfl, Nat.le_of_ble_eq_true rfl, fun _ h => nomatch h⟩

theorem rlL : Statement .rlL :=
  ⟨Nat.le_of_ble_eq_true rfl, Nat.le_of_ble_eq_true rfl, fun _ h => nomatch h⟩

theorem rlMHL : Statement .rlMHL :=
  ⟨Nat.le_of_ble_eq_true rfl, Nat.le_of_ble_eq_true rfl, fun _ h => nomatch h⟩

theorem rlA : Statement .rlA :=
  ⟨Nat.le_of_ble_eq_true rfl, Nat.le_of_ble_eq_true rfl, fun _ h => nomatch h⟩

theorem rrB : Statement .rrB :=
  ⟨Nat.le_of_ble_eq_true rfl, Nat.le_of_ble_eq_true rfl, fun _ h => nomatch h⟩

theorem rrC : Statement .rrC :=
  ⟨Nat.le_of_ble_eq_true rfl, Nat.le_of_ble_eq_true rfl, fun _ h => nomatch h⟩

theorem rrD : Statement .rrD :=
  ⟨Nat.le_of_ble_eq_true rfl, Nat.le_of_ble_eq_true rfl, fun _ h => nomatch h⟩

theorem rrE : Statement .rrE :=
  ⟨Nat.le_of_ble_eq_true rfl, Nat.le_of_ble_eq_true rfl, fun _ h => nomatch h⟩

theorem rrH : Statement .rrH :=
  ⟨Nat.le_of_ble_eq_true rfl, Nat.le_of_ble_eq_true rfl, fun _ h => nomatch h⟩

theorem rrL : Statement .rrL :=
  ⟨Nat.le_of_ble_eq_true rfl, Nat.le_of_ble_eq_true rfl, fun _ h => nomatch h⟩

theorem rrMHL : Statement .rrMHL :=
  ⟨Nat.le_of_ble_eq_true rfl, Nat.le_of_ble_eq_true rfl, fun _ h => nomatch h⟩

theorem rrA : Statement .rrA :=
  ⟨Nat.le_of_ble_eq_true rfl, Nat.le_of_ble_eq_true rfl, fun _ h => nomatch h⟩

theorem slaB : Statement .slaB :=
  ⟨Nat.le_of_ble_eq_true rfl, Nat.le_of_ble_eq_true rfl, fun _ h => nomatch h⟩

theorem slaC : Statement .slaC :=
  ⟨Nat.le_of_ble_eq_true rfl, Nat.le_of_ble_eq_true rfl, fun _ h => nomatch h⟩

theorem slaD : Statement .slaD :=
  ⟨Nat.le_of_ble_eq_true rfl, Nat.le_of_ble_eq_true rfl, fun _ h => nomatch h⟩

theorem slaE : Statement .slaE :=
  ⟨Nat.le_of_ble_eq_true rfl, Nat.le_of_ble_eq_true rfl, fun _ h => nomatch h⟩

theorem slaH : Statement .slaH :=
  ⟨Nat.le_of_ble_eq_true rfl, Nat.le_of_ble_eq_true rfl, fun _ h => nomatch h⟩

theorem slaL : Statement .slaL :=
  ⟨Nat.le_of_ble_eq_true rfl, Nat.le_of_ble_eq_true rfl, fun _ h => nomatch h⟩

theorem slaMHL : Statement .slaMHL :=
  ⟨Nat.le_of_ble_eq_true rfl, Nat.le_of_ble_eq_true rfl, fun _ h => nomatch h⟩

theorem slaA : Statement .slaA :=
  ⟨Nat.le_of_ble_eq_true rfl, Nat.le_of_ble_eq_true rfl, fun _ h => nomatch h⟩

theorem sraB : Statement .sraB :=
  ⟨Nat.le_of_ble_eq_true rfl, Nat.le_of_ble_eq_true rfl, fun _ h => nomatch h⟩

theorem sraC : Statement .sraC :=
  ⟨Nat.le_of_ble_eq_true rfl, Nat.le_of_ble_eq_true rfl, fun _ h => nomatch h⟩

theorem sraD : Statement .sraD :=
  ⟨Nat.le_of_ble_eq_true rfl, Nat.le_of_ble_eq_true rfl, fun _ h => nomatch h⟩

theorem sraE : Statement .sraE :=
  ⟨Nat.le_of_ble_eq_true rfl, Nat.le_of_ble_eq_true rfl, fun _ h => nomatch h⟩

theorem sraH : Statement .sraH :=
  ⟨Nat.le_of_ble_eq_true rfl, Nat.le_of_ble_eq_true rfl, fun _ h => nomatch h⟩

theorem sraL : Statement .sraL :=
  ⟨Nat.le_of_ble_eq_true rfl, Nat.le_of_ble_eq_true rfl, fun _ h => nomatch h⟩

theorem sraMHL : Statement .sraMHL :=
  ⟨Nat.le_of_ble_eq_true rfl, Nat.le_of_ble_eq_true rfl, fun _ h => nomatch h⟩

theorem sraA : Statement .sraA :=
  ⟨Nat.le_of_ble_eq_true rfl, Nat.le_of_ble_eq_true rfl, fun _ h => nomatch h⟩

theorem swapB : Statement .swapB :=
  ⟨Nat.le_of_ble_eq_true rfl, Nat.le_of_ble_eq_true rfl, fun _ h => nomatch h⟩

theorem swapC : Statement .swapC :=
  ⟨Nat.le_of_ble_eq_true rfl, Nat.le_of_ble_eq_true rfl, fun _ h => nomatch h⟩

theorem swapD : Statement .swapD :=
  ⟨Nat.le_of_ble_eq_true rfl, Nat.le_of_ble_eq_true rfl, fun _ h => nomatch h⟩

theorem swapE : Statement .swapE :=
  ⟨Nat.le_of_ble_eq_true rfl, Nat.le_of_ble_eq_true rfl, fun _ h => nomatch h⟩

theorem swapH : Statement .swapH :=
  ⟨Nat.le_of_ble_eq_true rfl, Nat.le_of_ble_eq_true rfl, fun _ h => nomatch h⟩

theorem swapL : Statement .swapL :=
  ⟨Nat.le_of_ble_eq_true rfl, Nat.le_of_ble_eq_true rfl, fun _ h => nomatch h⟩

theorem swapMHL : Statement .swapMHL :=
  ⟨Nat.le_of_ble_eq_true rfl, Nat.le_of_ble_eq_true rfl, fun _ h => nomatch h⟩

theorem swapA : Statement .swapA :=
  ⟨Nat.le_of_ble_eq_true rfl, Nat.le_of_ble_eq_true rfl, fun _ h => nomatch h⟩

theorem srlB : Statement .srlB :=
  ⟨Nat.le_of_ble_eq_true rfl, Nat.le_of_ble_eq_true rfl, fun _ h => nomatch h⟩

theorem srlC : Statement .srlC :=
  ⟨Nat.le_of_ble_eq_true rfl, Nat.le_of_ble_eq_true rfl, fun _ h => nomatch h⟩

theorem srlD : Statement .srlD :=
  ⟨Nat.le_of_ble_eq_true rfl, Nat.le_of_ble_eq_true rfl, fun _ h => nomatch h⟩

theorem srlE : Statement .srlE :=
  ⟨Nat.le_of_ble_eq_true rfl, Nat.le_of_ble_eq_true rfl, fun _ h => nomatch h⟩

theorem srlH : Statement .srlH :=
  ⟨Nat.le_of_ble_eq_true rfl, Nat.le_of_ble_eq_true rfl, fun _ h => nomatch h⟩

theorem srlL : Statement .srlL :=
  ⟨Nat.le_of_ble_eq_true rfl, Nat.le_of_ble_eq_true rfl, fun _ h => nomatch h⟩

theorem srlMHL : Statement .srlMHL :=
  ⟨Nat.le_of_ble_eq_true rfl, Nat.le_of_ble_eq_true rfl, fun _ h => nomatch h⟩

theorem srlA : Statement .srlA :=
  ⟨Nat.le_of_ble_eq_true rfl, Nat.le_of_ble_eq_true rfl, fun _ h => nomatch h⟩

theorem bit0B : Statement .bit0B :=
  ⟨Nat.le_of_ble_eq_true rfl, Nat.le_of_ble_eq_true rfl, fun _ h => nomatch h⟩

theorem bit0C : Statement .bit0C :=
  ⟨Nat.le_of_ble_eq_true rfl, Nat.le_of_ble_eq_true rfl, fun _ h => nomatch h⟩

theorem bit0D : Statement .bit0D :=
  ⟨Nat.le_of_ble_eq_true rfl, Nat.le_of_ble_eq_true rfl, fun _ h => nomatch h⟩

theorem bit0E : Statement .bit0E :=
  ⟨Nat.le_of_ble_eq_true rfl, Nat.le_of_ble_eq_true rfl, fun _ h => nomatch h⟩

theorem bit0H : Statement .bit0H :=
  ⟨Nat.le_of_ble_eq_true rfl, Nat.le_of_ble_eq_true rfl, fun _ h => nomatch h⟩

theorem bit0L : Statement .bit0L :=
  ⟨Nat.le_of_ble_eq_true rfl, Nat.le_of_ble_eq_true rfl, fun _ h => nomatch h⟩

theorem bit0MHL : Statement .bit0MHL :=
  ⟨Nat.le_of_ble_eq_true rfl, Nat.le_of_ble_eq_true rfl, fun _ h => nomatch h⟩

theorem bit0A : Statement .bit0A :=
  ⟨Nat.le_of_ble_eq_true rfl, Nat.le_of_ble_eq_true rfl, fun _ h => nomatch h⟩

theorem bit1B : Statement .bit1B :=
  ⟨Nat.le_of_ble_eq_true rfl, Nat.le_of_ble_eq_true rfl, fun _ h => nomatch h⟩

theorem bit1C : Statement .bit1C :=
  ⟨Nat.le_of_ble_eq_true rfl, Nat.le_of_ble_eq_true rfl, fun _ h => nomatch h⟩

theorem bit1D : Statement .bit1D :=
  ⟨Nat.le_of_ble_eq_true rfl, Nat.le_of_ble_eq_true rfl, fun _ h => nomatch h⟩

theorem bit1E : Statement .bit1E :=
  ⟨Nat.le_of_ble_eq_true rfl, Nat.le_of_ble_eq_true rfl, fun _ h => nomatch h⟩

theorem bit1H : Statement .bit1H :=
  ⟨Nat.le_of_ble_eq_true rfl, Nat.le_of_ble_eq_true rfl, fun _ h => nomatch h⟩

theorem bit1L : Statement .bit1L :=
  ⟨Nat.le_of_ble_eq_true rfl, Nat.le_of_ble_eq_true rfl, fun _ h => nomatch h⟩

theorem bit1MHL : Statement .bit1MHL :=
  ⟨Nat.le_of_ble_eq_true rfl, Nat.le_of_ble_eq_true rfl, fun _ h => nomatch h⟩

theorem bit1A : Statement .bit1A :=
  ⟨Nat.le_of_ble_eq_true rfl, Nat.le_of_ble_eq_true rfl, fun _ h => nomatch h⟩

theorem bit2B : Statement .bit2B :=
  ⟨Nat.le_of_ble_eq_true rfl, Nat.le_of_ble_eq_true rfl, fun _ h => nomatch h⟩

theorem bit2C : Statement .bit2C :=
  ⟨Nat.le_of_ble_eq_true rfl, Nat.le_of_ble_eq_true rfl, fun _ h => nomatch h⟩

theorem bit2D : Statement .bit2D :=
  ⟨Nat.le_of_ble_eq_true rfl, Nat.le_of_ble_eq_true rfl, fun _ h => nomatch h⟩

theorem bit2E : Statement .bit2E :=
  ⟨Nat.le_of_ble_eq_true rfl, Nat.le_of_ble_eq_true rfl, fun _ h => nomatch h⟩

theorem bit2H : Statement .bit2H :=
  ⟨Nat.le_of_ble_eq_true rfl, Nat.le_of_ble_eq_true rfl, fun _ h => nomatch h⟩

theorem bit2L : Statement .bit2L :=
  ⟨Nat.le_of_ble_eq_true rfl, Nat.le_of_ble_eq_true rfl, fun _ h => nomatch h⟩

theorem bit2MHL : Statement .bit2MHL :=
  ⟨Nat.le_of_ble_eq_true rfl, Nat.le_of_ble_eq_true rfl, fun _ h => nomatch h⟩

theorem bit2A : Statement .bit2A :=
  ⟨Nat.le_of_ble_eq_true rfl, Nat.le_of_ble_eq_true rfl, fun _ h => nomatch h⟩

theorem bit3B : Statement .bit3B :=
  ⟨Nat.le_of_ble_eq_true rfl, Nat.le_of_ble_eq_true rfl, fun _ h => nomatch h⟩

theorem bit3C : Statement .bit3C :=
  ⟨Nat.le_of_ble_eq_true rfl, Nat.le_of_ble_eq_true rfl, fun _ h => nomatch h⟩

theorem bit3D : Statement .bit3D :=
  ⟨Nat.le_of_ble_eq_true rfl, Nat.le_of_ble_eq_true rfl, fun _ h => nomatch h⟩

theorem bit3E : Statement .bit3E :=
  ⟨Nat.le_of_ble_eq_true rfl, Nat.le_of_ble_eq_true rfl, fun _ h => nomatch h⟩

theorem bit3H : Statement .bit3H :=
  ⟨Nat.le_of_ble_eq_true rfl, Nat.le_of_ble_eq_true rfl, fun _ h => nomatch h⟩

theorem bit3L : Statement .bit3L :=
  ⟨Nat.le_of_ble_eq_true rfl, Nat.le_of_ble_eq_true rfl, fun _ h => nomatch h⟩

theorem bit3MHL : Statement .bit3MHL :=
  ⟨Nat.le_of_ble_eq_true rfl, Nat.le_of_ble_eq_true rfl, fun _ h => nomatch h⟩

theorem bit3A : Statement .bit3A :=
  ⟨Nat.le_of_ble_eq_true rfl, Nat.le_of_ble_eq_true rfl, fun _ h => nomatch h⟩

theorem bit4B : Statement .bit4B :=
  ⟨Nat.le_of_ble_eq_true rfl, Nat.le_of_ble_eq_true rfl, fun _ h => nomatch h⟩

theorem bit4C : Statement .bit4C :=
  ⟨Nat.le_of_ble_eq_true rfl, Nat.le_of_ble_eq_true rfl, fun _ h => nomatch h⟩

theorem bit4D : Statement .bit4D :=
  ⟨Nat.le_of_ble_eq_true rfl, Nat.le_of_ble_eq_true rfl, fun _ h => nomatch h⟩

theorem bit4E : Statement .bit4E :=
  ⟨Nat.le_of_ble_eq_true rfl, Nat.le_of_ble_eq_true rfl, fun _ h => nomatch h⟩

theorem bit4H : Statement .bit4H :=
  ⟨Nat.le_of_ble_eq_true rfl, Nat.le_of_ble_eq_true rfl, fun _ h => nomatch h⟩

theorem bit4L : Statement .bit4L :=
  ⟨Nat.le_of_ble_eq_true rfl, Nat.le_of_ble_eq_true rfl, fun _ h => nomatch h⟩

theorem bit4MHL : Statement .bit4MHL :=
  ⟨Nat.le_of_ble_eq_true rfl, Nat.le_of_ble_eq_true rfl, fun _ h => nomatch h⟩

theorem bit4A : Statement .bit4A :=
  ⟨Nat.le_of_ble_eq_true rfl, Nat.le_of_ble_eq_true rfl, fun _ h => nomatch h⟩

theorem bit5B : Statement .bit5B :=
  ⟨Nat.le_of_ble_eq_true rfl, Nat.le_of_ble_eq_true rfl, fun _ h => nomatch h⟩

theorem bit5C : Statement .bit5C :=
  ⟨Nat.le_of_ble_eq_true rfl, Nat.le_of_ble_eq_true rfl, fun _ h => nomatch h⟩

theorem bit5D : Statement .bit5D :=
  ⟨Nat.le_of_ble_eq_true rfl, Nat.le_of_ble_eq_true rfl, fun _ h => nomatch h⟩

theorem bit5E : Statement .bit5E :=
  ⟨Nat.le_of_ble_eq_true rfl, Nat.le_of_ble_eq_true rfl, fun _ h => nomatch h⟩

theorem bit5H : Statement .bit5H :=
  ⟨Nat.le_of_ble_eq_true rfl, Nat.le_of_ble_eq_true rfl, fun _ h => nomatch h⟩

theorem bit5L : Statement .bit5L :=
  ⟨Nat.le_of_ble_eq_true rfl, Nat.le_of_ble_eq_true rfl, fun _ h => nomatch h⟩

theorem bit5MHL : Statement .bit5MHL :=
  ⟨Nat.le_of_ble_eq_true rfl, Nat.le_of_ble_eq_true rfl, fun _ h => nomatch h⟩

theorem bit5A : Statement .bit5A :=
  ⟨Nat.le_of_ble_eq_true rfl, Nat.le_of_ble_eq_true rfl, fun _ h => nomatch h⟩

theorem bit6B : Statement .bit6B :=
  ⟨Nat.le_of_ble_eq_true rfl, Nat.le_of_ble_eq_true rfl, fun _ h => nomatch h⟩

theorem bit6C : Statement .bit6C :=
  ⟨Nat.le_of_ble_eq_true rfl, Nat.le_of_ble_eq_true rfl, fun _ h => nomatch h⟩

theorem bit6D : Statement .bit6D :=
  ⟨Nat.le_of_ble_eq_true rfl, Nat.le_of_ble_eq_true rfl, fun _ h => nomatch h⟩

theorem bit6E : Statement .bit6E :=
  ⟨Nat.le_of_ble_eq_true rfl, Nat.le_of_ble_eq_true rfl, fun _ h => nomatch h⟩

theorem bit6H : Statement .bit6H :=
  ⟨Nat.le_of_ble_eq_true rfl, Nat.le_of_ble_eq_true rfl, fun _ h => nomatch h⟩

theorem bit6L : Statement .bit6L :=
  ⟨Nat.le_of_ble_eq_true rfl, Nat.le_of_ble_eq_true rfl, fun _ h => nomatch h⟩

theorem bit6MHL : Statement .bit6MHL :=
  ⟨Nat.le_of_ble_eq_true rfl, Nat.le_of_ble_eq_true rfl, fun _ h => nomatch h⟩

theorem bit6A : Statement .bit6A :=
  ⟨Nat.le_of_ble_eq_true rfl, Nat.le_of_ble_eq_true rfl, fun _ h => nomatch h⟩

theorem bit7B : Statement .bit7B :=
  ⟨Nat.le_of_ble_eq_true rfl, Nat.le_of_ble_eq_true rfl, fun _ h => nomatch h⟩

theorem bit7C : Statement .bit7C :=
  ⟨Nat.le_of_ble_eq_true rfl, Nat.le_of_ble_eq_true rfl, fun _ h => nomatch h⟩

theorem bit7D : Statement .bit7D :=
  ⟨Nat.le_of_ble_eq_true rfl, Nat.le_of_ble_eq_true rfl, fun _ h => nomatch h⟩

theorem bit7E : Statement .bit7E :=
  ⟨Nat.le_of_ble_eq_true rfl, Nat.le_of_ble_eq_true rfl, fun _ h => nomatch h⟩

theorem bit7H : Statement .bit7H :=
  ⟨Nat.le_of_ble_eq_true rfl, Nat.le_of_ble_eq_true rfl, fun _ h => nomatch h⟩

theorem bit7L : Statement .bit7L :=
  ⟨Nat.le_of_ble_eq_true rfl, Nat.le_of_ble_eq_true rfl, fun _ h => nomatch h⟩

theorem bit7MHL : Statement .bit7MHL :=
  ⟨Nat.le_of_ble_eq_true rfl, Nat.le_of_ble_eq_true rfl, fun _ h => nomatch h⟩

theorem bit7A : Statement .bit7A :=
  ⟨Nat.le_of_ble_eq_true rfl, Nat.le_of_ble_eq_true rfl, fun _ h => nomatch h⟩

theorem res0B : Statement .res0B :=
  ⟨Nat.le_of_ble_eq_true rfl, Nat.le_of_ble_eq_true rfl, fun _ h => nomatch h⟩

theorem res0C : Statement .res0C :=
  ⟨Nat.le_of_ble_eq_true rfl, Nat.le_of_ble_eq_true rfl, fun _ h => nomatch h⟩

theorem res0D : Statement .res0D :=
  ⟨Nat.le_of_ble_eq_true rfl, Nat.le_of_ble_eq_true rfl, fun _ h => nomatch h⟩

theorem res0E : Statement .res0E :=
  ⟨Nat.le_of_ble_eq_true rfl, Nat.le_of_ble_eq_true rfl, fun _ h => nomatch h⟩

theorem res0H : Statement .res0H :=
  ⟨Nat.le_of_ble_eq_true rfl, Nat.le_of_ble_eq_true rfl, fun _ h => nomatch h⟩

theorem res0L : Statement .res0L :=
  ⟨Nat.le_of_ble_eq_true rfl, Nat.le_of_ble_eq_true rfl, fun _ h => nomatch h⟩

theorem res0MHL : Statement .res0MHL :=
  ⟨Nat.le_of_ble_eq_true rfl, Nat.le_of_ble_eq_true rfl, fun _ h => nomatch h⟩

theorem res0A : Statement .res0A :=
  ⟨Nat.le_of_ble_eq_true rfl, Nat.le_of_ble_eq_true rfl, fun _ h => nomatch h⟩

theorem res1B : Statement .res1B :=
  ⟨Nat.le_of_ble_eq_true rfl, Nat.le_of_ble_eq_true rfl, fun _ h => nomatch h⟩

theorem res1C : Statement .res1C :=
  ⟨Nat.le_of_ble_eq_true rfl, Nat.le_of_ble_eq_true rfl, fun _ h => nomatch h⟩

theorem res1D : Statement .res1D :=
  ⟨Nat.le_of_ble_eq_true rfl, Nat.le_of_ble_eq_true rfl, fun _ h => nomatch h⟩

theorem res1E : Statement .res1E :=
  ⟨Nat.le_of_ble_eq_true rfl, Nat.le_of_ble_eq_true rfl, fun _ h => nomatch h⟩

theorem res1H : Statement .res1H :=
  ⟨Nat.le_of_ble_eq_true rfl, Nat.le_of_ble_eq_true rfl, fun _ h => nomatch h⟩

theorem res1L : Statement .res1L :=
  ⟨Nat.le_of_ble_eq_true rfl, Nat.le_of_ble_eq_true rfl, fun _ h => nomatch h⟩

theorem res1MHL : Statement .res1MHL :=
  ⟨Nat.le_of_ble_eq_true rfl, Nat.le_of_ble_eq_true rfl, fun _ h => nomatch h⟩

theorem res1A : Statement .res1A :=
  ⟨Nat.le_of_ble_eq_true rfl, Nat.le_of_ble_eq_true rfl, fun _ h => nomatch h⟩

theorem res2B : Statement .res2B :=
  ⟨Nat.le_of_ble_eq_true rfl, Nat.le_of_ble_eq_true rfl, fun _ h => nomatch h⟩

theorem res2C : Statement .res2C :=
  ⟨Nat.le_of_ble_eq_true rfl, Nat.le_of_ble_eq_true rfl, fun _ h => nomatch h⟩

theorem res2D : Statement .res2D :=
  ⟨Nat.le_of_ble_eq_true rfl, Nat.le_of_ble_eq_true rfl, fun _ h => nomatch h⟩

theorem res2E : Statement .res2E :=
  ⟨Nat.le_of_ble_eq_true rfl, Nat.le_of_ble_eq_true rfl, fun _ h => nomatch h⟩

theorem res2H : Statement .res2H :=
  ⟨Nat.le_of_ble_eq_true rfl, Nat.le_of_ble_eq_true rfl, fun _ h => nomatch h⟩

theorem res2L : Statement .res2L :=
  ⟨Nat.le_of_ble_eq_true rfl, Nat.le_of_ble_eq_true rfl, fun _ h => nomatch h⟩

theorem res2MHL : Statement .res2MHL :=
  ⟨Nat.le_of_ble_eq_true rfl, Nat.le_of_ble_eq_true rfl, fun _ h => nomatch h⟩

theorem res2A : Statement .res2A :=
  ⟨Nat.le_of_ble_eq_true rfl, Nat.le_of_ble_eq_true rfl, fun _ h => nomatch h⟩

theorem res3B : Statement .res3B :=
  ⟨Nat.le_of_ble_eq_true rfl, Nat.le_of_ble_eq_true rfl, fun _ h => nomatch h⟩

theorem res3C : Statement .res3C :=
  ⟨Nat.le_of_ble_eq_true rfl, Nat.le_of_ble_eq_true rfl, fun _ h => nomatch h⟩

theorem res3D : Statement .res3D :=
  ⟨Nat.le_of_ble_eq_true rfl, Nat.le_of_ble_eq_true rfl, fun _ h => nomatch h⟩

theorem res3E : Statement .res3E :=
  ⟨Nat.le_of_ble_eq_true rfl, Nat.le_of_ble_eq_true rfl, fun _ h => nomatch h⟩

theorem res3H : Statement .res3H :=
  ⟨Nat.le_of_ble_eq_true rfl, Nat.le_of_ble_eq_true rfl, fun _ h => nomatch h⟩

theorem res3L : Statement .res3L :=
  ⟨Nat.le_of_ble_eq_true rfl, Nat.le_of_ble_eq_true rfl, fun _ h => nomatch h⟩

theorem res3MHL : Statement .res3MHL :=
  ⟨Nat.le_of_ble_eq_true rfl, Nat.le_of_ble_eq_true rfl, fun _ h => nomatch h⟩

theorem res3A : Statement .res3A :=
  ⟨Nat.le_of_ble_eq_true rfl, Nat.le_of_ble_eq_true rfl, fun _ h => nomatch h⟩

theorem res4B : Statement .res4B :=
  ⟨Nat.le_of_ble_eq_true rfl, Nat.le_of_ble_eq_true rfl, fun _ h => nomatch h⟩

theorem res4C : Statement .res4C :=
  ⟨Nat.le_of_ble_eq_true rfl, Nat.le_of_ble_eq_true rfl, fun _ h => nomatch h⟩

theorem res4D : Statement .res4D :=
  ⟨Nat.le_of_ble_eq_true rfl, Nat.le_of_ble_eq_true rfl, fun _ h => nomatch h⟩

theorem res4E : Statement .res4E :=
  ⟨Nat.le_of_ble_eq_true rfl, Nat.le_of_ble_eq_true rfl, fun _ h => nomatch h⟩

theorem res4H : Statement .res4H :=
  ⟨Nat.le_of_ble_eq_true rfl, Nat.le_of_ble_eq_true rfl, fun _ h => nomatch h⟩

theorem res4L : Statement .res4L :=
  ⟨Nat.le_of_ble_eq_true rfl, Nat.le_of_ble_eq_true rfl, fun _ h => nomatch h⟩

theorem res4MHL : Statement .res4MHL :=
  ⟨Nat.le_of_ble_eq_true rfl, Nat.le_of_ble_eq_true rfl, fun _ h => nomatch h⟩

theorem res4A : Statement .res4A :=
  ⟨Nat.le_of_ble_eq_true rfl, Nat.le_of_ble_eq_true rfl, fun _ h => nomatch h⟩

theorem res5B : Statement .res5B :=
  ⟨Nat.le_of_ble_eq_true rfl, Nat.le_of_ble_eq_true rfl, fun _ h => nomatch h⟩

theorem res5C : Statement .res5C :=
  ⟨Nat.le_of_ble_eq_true rfl, Nat.le_of_ble_eq_true rfl, fun _ h => nomatch h⟩

theorem res5D : Statement .res5D :=
  ⟨Nat.le_of_ble_eq_true rfl, Nat.le_of_ble_eq_true rfl, fun _ h => nomatch h⟩

theorem res5E : Statement .res5E :=
  ⟨Nat.le_of_ble_eq_true rfl, Nat.le_of_ble_eq_true rfl, fun _ h => nomatch h⟩

theorem res5H : Statement .res5H :=
  ⟨Nat.le_of_ble_eq_true rfl, Nat.le_of_ble_eq_true rfl, fun _ h => nomatch h⟩

theorem res5L : Statement .res5L :=
  ⟨Nat.le_of_ble_eq_true rfl, Nat.le_of_ble_eq_true rfl, fun _ h => nomatch h⟩

theorem res5MHL : Statement .res5MHL :=
  ⟨Nat.le_of_ble_eq_true rfl, Nat.le_of_ble_eq_true rfl, fun _ h => nomatch h⟩

theorem res5A : Statement .res5A :=
  ⟨Nat.le_of_ble_eq_true rfl, Nat.le_of_ble_eq_true rfl, fun _ h => nomatch h⟩

theorem res6B : Statement .res6B :=
  ⟨Nat.le_of_ble_eq_true rfl, Nat.le_of_ble_eq_true rfl, fun _ h => nomatch h⟩

theorem res6C : Statement .res6C :=
  ⟨Nat.le_of_ble_eq_true rfl, Nat.le_of_ble_eq_true rfl, fun _ h => nomatch h⟩

theorem res6D : Statement .res6D :=
  ⟨Nat.le_of_ble_eq_true rfl, Nat.le_of_ble_eq_true rfl, fun _ h => nomatch h⟩

theorem res6E : Statement .res6E :=
  ⟨Nat.le_of_ble_eq_true rfl, Nat.le_of_ble_eq_true rfl, fun _ h => nomatch h⟩

theorem res6H : Statement .res6H :=
  ⟨Nat.le_of_ble_eq_true rfl, Nat.le_of_ble_eq_true rfl, fun _ h => nomatch h⟩

theorem res6L : Statement .res6L :=
  ⟨Nat.le_of_ble_eq_true rfl, Nat.le_of_ble_eq_true rfl, fun _ h => nomatch h⟩

theorem res6MHL : Statement .res6MHL :=
  ⟨Nat.le_of_ble_eq_true rfl, Nat.le_of_ble_eq_true rfl, fun _ h => nomatch h⟩

theorem res6A : Statement .res6A :=
  ⟨Nat.le_of_ble_eq_true rfl, Nat.le_of_ble_eq_true rfl, fun _ h => nomatch h⟩

theorem res7B : Statement .res7B :=
  ⟨Nat.le_of_ble_eq_true rfl, Nat.le_of_ble_eq_true rfl, fun _ h => nomatch h⟩

theorem res7C : Statement .res7C :=
  ⟨Nat.le_of_ble_eq_true rfl, Nat.le_of_ble_eq_true rfl, fun _ h => nomatch h⟩

theorem res7D : Statement .res7D :=
  ⟨Nat.le_of_ble_eq_true rfl, Nat.le_of_ble_eq_true rfl, fun _ h => nomatch h⟩

theorem res7E : Statement .res7E :=
  ⟨Nat.le_of_ble_eq_true rfl, Nat.le_of_ble_eq_true rfl, fun _ h => nomatch h⟩

theorem res7H : Statement .res7H :=
  ⟨Nat.le_of_ble_eq_true rfl, Nat.le_of_ble_eq_true rfl, fun _ h => nomatch h⟩

theorem res7L : Statement .res7L :=
  ⟨Nat.le_of_ble_eq_true rfl, Nat.le_of_ble_eq_true rfl, fun _ h => nomatch h⟩

theorem res7MHL : Statement .res7MHL :=
  ⟨Nat.le_of_ble_eq_true rfl, Nat.le_of_ble_eq_true rfl, fun _ h => nomatch h⟩

theorem res7A : Statement .res7A :=
  ⟨Nat.le_of_ble_eq_true rfl, Nat.le_of_ble_eq_true rfl, fun _ h => nomatch h⟩

theorem set0B : Statement .set0B :=
  ⟨Nat.le_of_ble_eq_true rfl, Nat.le_of_ble_eq_true rfl, fun _ h => nomatch h⟩

theorem set0C : Statement .set0C :=
  ⟨Nat.le_of_ble_eq_true rfl, Nat.le_of_ble_eq_true rfl, fun _ h => nomatch h⟩

theorem set0D : Statement .set0D :=
  ⟨Nat.le_of_ble_eq_true rfl, Nat.le_of_ble_eq_true rfl, fun _ h => nomatch h⟩

theorem set0E : Statement .set0E :=
  ⟨Nat.le_of_ble_eq_true rfl, Nat.le_of_ble_eq_true rfl, fun _ h => nomatch h⟩

theorem set0H : Statement .set0H :=
  ⟨Nat.le_of_ble_eq_true rfl, Nat.le_of_ble_eq_true rfl, fun _ h => nomatch h⟩

theorem set0L : Statement .set0L :=
  ⟨Nat.le_of_ble_eq_true rfl, Nat.le_of_ble_eq_true rfl, fun _ h => nomatch h⟩

theorem set0MHL : Statement .set0MHL :=
  ⟨Nat.le_of_ble_eq_true rfl, Nat.le_of_ble_eq_true rfl, fun _ h => nomatch h⟩

theorem set0A : Statement .set0A :=
  ⟨Nat.le_of_ble_eq_true rfl, Nat.le_of_ble_eq_true rfl, fun _ h => nomatch h⟩

theorem set1B : Statement .set1B :=
  ⟨Nat.le_of_ble_eq_true rfl, Nat.le_of_ble_eq_true rfl, fun _ h => nomatch h⟩

theorem set1C : Statement .set1C :=
  ⟨Nat.le_of_ble_eq_true rfl, Nat.le_of_ble_eq_true rfl, fun _ h => nomatch h⟩

theorem set1D : Statement .set1D :=
  ⟨Nat.le_of_ble_eq_true rfl, Nat.le_of_ble_eq_true rfl, fun _ h => nomatch h⟩

theorem set1E : Statement .set1E :=
  ⟨Nat.le_of_ble_eq_true rfl, Nat.le_of_ble_eq_true rfl, fun _ h => nomatch h⟩

theorem set1H : Statement .set1H :=
  ⟨Nat.le_of_ble_eq_true rfl, Nat.le_of_ble_eq_true rfl, fun _ h => nomatch h⟩

theorem set1L : Statement .set1L :=
  ⟨Nat.le_of_ble_eq_true rfl, Nat.le_of_ble_eq_true rfl, fun _ h => nomatch h⟩

theorem set1MHL : Statement .set1MHL :=
  ⟨Nat.le_of_ble_eq_true rfl, Nat.le_of_ble_eq_true rfl, fun _ h => nomatch h⟩

theorem set1A : Statement .set1A :=
  ⟨Nat.le_of_ble_eq_true rfl, Nat.le_of_ble_eq_true rfl, fun _ h => nomatch h⟩

theorem set2B : Statement .set2B :=
  ⟨Nat.le_of_ble_eq_true rfl, Nat.le_of_ble_eq_true rfl, fun _ h => nomatch h⟩

theorem set2C : Statement .set2C :=
  ⟨Nat.le_of_ble_eq_true rfl, Nat.le_of_ble_eq_true rfl, fun _ h => nomatch h⟩

theorem set2D : Statement .set2D :=
  ⟨Nat.le_of_ble_eq_true rfl, Nat.le_of_ble_eq_true rfl, fun _ h => nomatch h⟩

theorem set2E : Statement .set2E :=
  ⟨Nat.le_of_ble_eq_true rfl, Nat.le_of_ble_eq_true rfl, fun _ h => nomatch h⟩

theorem set2H : Statement .set2H :=
  ⟨Nat.le_of_ble_eq_true rfl, Nat.le_of_ble_eq_true rfl, fun _ h => nomatch h⟩

theorem set2L : Statement .set2L :=
  ⟨Nat.le_of_ble_eq_true rfl, Nat.le_of_ble_eq_true rfl, fun _ h => nomatch h⟩

theorem set2MHL : Statement .set2MHL :=
  ⟨Nat.le_of_ble_eq_true rfl, Nat.le_of_ble_eq_true rfl, fun _ h => nomatch h⟩

theorem set2A : Statement .set2A :=
  ⟨Nat.le_of_ble_eq_true rfl, Nat.le_of_ble_eq_true rfl, fun _ h => nomatch h⟩

theorem set3B : Statement .set3B :=
  ⟨Nat.le_of_ble_eq_true rfl, Nat.le_of_ble_eq_true rfl, fun _ h => nomatch h⟩

theorem set3C : Statement .set3C :=
  ⟨Nat.le_of_ble_eq_true rfl, Nat.le_of_ble_eq_true rfl, fun _ h => nomatch h⟩

theorem set3D : Statement .set3D :=
  ⟨Nat.le_of_ble_eq_true rfl, Nat.le_of_ble_eq_true rfl, fun _ h => nomatch h⟩

theorem set3E : Statement .set3E :=
  ⟨Nat.le_of_ble_eq_true rfl, Nat.le_of_ble_eq_true rfl, fun _ h => nomatch h⟩

theorem set3H : Statement .set3H :=
  ⟨Nat.le_of_ble_eq_true rfl, Nat.le_of_ble_eq_true rfl, fun _ h => nomatch h⟩

theorem set3L : Statement .set3L :=
  ⟨Nat.le_of_ble_eq_true rfl, Nat.le_of_ble_eq_true rfl, fun _ h => nomatch h⟩

theorem set3MHL : Statement .set3MHL :=
  ⟨Nat.le_of_ble_eq_true rfl, Nat.le_of_ble_eq_true rfl, fun _ h => nomatch h⟩

theorem set3A : Statement .set3A :=
  ⟨Nat.le_of_ble_eq_true rfl, Nat.le_of_ble_eq_true rfl, fun _ h => nomatch h⟩

theorem set4B : Statement .set4B :=
  ⟨Nat.le_of_ble_eq_true rfl, Nat.le_of_ble_eq_true rfl, fun _ h => nomatch h⟩

theorem set4C : Statement .set4C :=
  ⟨Nat.le_of_ble_eq_true rfl, Nat.le_of_ble_eq_true rfl, fun _ h => nomatch h⟩

theorem set4D : Statement .set4D :=
  ⟨Nat.le_of_ble_eq_true rfl, Nat.le_of_ble_eq_true rfl, fun _ h => nomatch h⟩

theorem set4E : Statement .set4E :=
  ⟨Nat.le_of_ble_eq_true rfl, Nat.le_of_ble_eq_true rfl, fun _ h => nomatch h⟩

theorem set4H : Statement .set4H :=
  ⟨Nat.le_of_ble_eq_true rfl, Nat.le_of_ble_eq_true rfl, fun _ h => nomatch h⟩

theorem set4L : Statement .set4L :=
  ⟨Nat.le_of_ble_eq_true rfl, Nat.le_of_ble_eq_true rfl, fun _ h => nomatch h⟩

theorem set4MHL : Statement .set4MHL :=
  ⟨Nat.le_of_ble_eq_true rfl, Nat.le_of_ble_eq_true rfl, fun _ h => nomatch h⟩

theorem set4A : Statement .set4A :=
  ⟨Nat.le_of_ble_eq_true rfl, Nat.le_of_ble_eq_true rfl, fun _ h => nomatch h⟩

theorem set5B : Statement .set5B :=
  ⟨Nat.le_of_ble_eq_true rfl, Nat.le_of_ble_eq_true rfl, fun _ h => nomatch h⟩

theorem set5C : Statement .set5C :=
  ⟨Nat.le_of_ble_eq_true rfl, Nat.le_of_ble_eq_true rfl, fun _ h => nomatch h⟩

theorem set5D : Statement .set5D :=
  ⟨Nat.le_of_ble_eq_true rfl, Nat.le_of_ble_eq_true rfl, fun _ h => nomatch h⟩

theorem set5E : Statement .set5E :=
  ⟨Nat.le_of_ble_eq_true rfl, Nat.le_of_ble_eq_true rfl, fun _ h => nomatch h⟩

theorem set5H : Statement .set5H :=
  ⟨Nat.le_of_ble_eq_true rfl, Nat.le_of_ble_eq_true rfl, fun _ h => nomatch h⟩

theorem set5L : Statement .set5L :=
  ⟨Nat.le_of_ble_eq_true rfl, Nat.le_of_ble_eq_true rfl, fun _ h => nomatch h⟩

theorem set5MHL : Statement .set5MHL :=
  ⟨Nat.le_of_ble_eq_true rfl, Nat.le_of_ble_eq_true rfl, fun _ h => nomatch h⟩

theorem set5A : Statement .set5A :=
  ⟨Nat.le_of_ble_eq_true rfl, Nat.le_of_ble_eq_true rfl, fun _ h => nomatch h⟩

theorem set6B : Statement .set6B :=
  ⟨Nat.le_of_ble_eq_true rfl, Nat.le_of_ble_eq_true rfl, fun _ h => nomatch h⟩

theorem set6C : Statement .set6C :=
  ⟨Nat.le_of_ble_eq_true rfl, Nat.le_of_ble_eq_true rfl, fun _ h => nomatch h⟩

theorem set6D : Statement .set6D :=
  ⟨Nat.le_of_ble_eq_true rfl, Nat.le_of_ble_eq_true rfl, fun _ h => nomatch h⟩

theorem set6E : Statement .set6E :=
  ⟨Nat.le_of_ble_eq_true rfl, Nat.le_of_ble_eq_true rfl, fun _ h => nomatch h⟩

theorem set6H : Statement .set6H :=
  ⟨Nat.le_of_ble_eq_true rfl, Nat.le_of_ble_eq_true rfl, fun _ h => nomatch h⟩

theorem set6L : Statement .set6L :=
  ⟨Nat.le_of_ble_eq_true rfl, Nat.le_of_ble_eq_true rfl, fun _ h => nomatch h⟩

theorem set6MHL : Statement .set6MHL :=
  ⟨Nat.le_of_ble_eq_true rfl, Nat.le_of_ble_eq_true rfl, fun _ h => nomatch h⟩

theorem set6A : Statement .set6A :=
  ⟨Nat.le_of_ble_eq_true rfl, Nat.le_of_ble_eq_true rfl, fun _ h => nomatch h⟩

theorem set7B : Statement .set7B :=
  ⟨Nat.le_of_ble_eq_true rfl, Nat.le_of_ble_eq_true rfl, fun _ h => nomatch h⟩

theorem set7C : Statement .set7C :=
  ⟨Nat.le_of_ble_eq_true rfl, Nat.le_of_ble_eq_true rfl, fun _ h => nomatch h⟩

theorem set7D : Statement .set7D :=
  ⟨Nat.le_of_ble_eq_true rfl, Nat.le_of_ble_eq_true rfl, fun _ h => nomatch h⟩

theorem set7E : Statement .set7E :=
  ⟨Nat.le_of_ble_eq_true rfl, Nat.le_of_ble_eq_true rfl, fun _ h => nomatch h⟩

theorem set7H : Statement .set7H :=
  ⟨Nat.le_of_ble_eq_true rfl, Nat.le_of_ble_eq_true rfl, fun _ h => nomatch h⟩

theorem set7L : Statement .set7L :=
  ⟨Nat.le_of_ble_eq_true rfl, Nat.le_of_ble_eq_true rfl, fun _ h => nomatch h⟩

theorem set7MHL : Statement .set7MHL :=
  ⟨Nat.le_of_ble_eq_true rfl, Nat.le_of_ble_eq_true rfl, fun _ h => nomatch h⟩

theorem set7A : Statement .set7A :=
  ⟨Nat.le_of_ble_eq_true rfl, Nat.le_of_ble_eq_true rfl, fun _ h => nomatch h⟩

end Sys2Proof.Laws.Size
end

