-- ==== Sys2Proof/Tests/Slice0.lean ====
section
/-! SUPPORT. The model's own tests. The expected results come from spec/opcode_table.json, from the vectors of
spec/95_test_vectors.md (named by their rows) and from the rules named; then a witness for each statement that has
hypotheses. -/

namespace Sys2Proof.Machine

/-! ## Well-formedness -/

/-- The `0xCB` prefix standing for an instruction is refused (R376). -/
theorem test_prefix_row_is_not_wellFormed : (Instr.prefixCB 0x00).wellFormed = false := rfl

/-- An instruction of the `0xCB` page is a whole instruction. -/
theorem test_page_row_is_wellFormed : Instr.rlcB.wellFormed = true := rfl

/-! ## Decoding: every row of the opcode table, its bytes written out from the table's `encoding` bits, the immediate
bytes being `0x34` and `0x12`, with the table's length and cycles -/

/-- Row `0x00` of the primary map. -/
theorem test_decode_00 :
    decode [0b00000000] = .ok .nop 1 4 ∧
    decode [0b00000001, 0x34, 0x12] = .ok (.ldBCNN 0x1234) 3 12 ∧
    decode [0b00000010] = .ok .ldMBCA 1 8 ∧
    decode [0b00000011] = .ok .incBC 1 8 ∧
    decode [0b00000100] = .ok .incB 1 4 ∧
    decode [0b00000101] = .ok .decB 1 4 ∧
    decode [0b00000110, 0x34] = .ok (.ldBN 0x34) 2 8 ∧
    decode [0b00000111] = .ok .rlca 1 4 ∧
    decode [0b00001000, 0x34, 0x12] = .ok (.ldMNNSP 0x1234) 3 20 ∧
    decode [0b00001001] = .ok .addHLBC 1 8 ∧
    decode [0b00001010] = .ok .ldAMBC 1 8 ∧
    decode [0b00001011] = .ok .decBC 1 8 ∧
    decode [0b00001100] = .ok .incC 1 4 ∧
    decode [0b00001101] = .ok .decC 1 4 ∧
    decode [0b00001110, 0x34] = .ok (.ldCN 0x34) 2 8 ∧
    decode [0b00001111] = .ok .rrca 1 4 := by decide

/-- Row `0x10` of the primary map. -/
theorem test_decode_10 :
    decode [0b00010000, 0x34] = .ok (.stop 0x34) 2 4 ∧
    decode [0b00010001, 0x34, 0x12] = .ok (.ldDENN 0x1234) 3 12 ∧
    decode [0b00010010] = .ok .ldMDEA 1 8 ∧
    decode [0b00010011] = .ok .incDE 1 8 ∧
    decode [0b00010100] = .ok .incD 1 4 ∧
    decode [0b00010101] = .ok .decD 1 4 ∧
    decode [0b00010110, 0x34] = .ok (.ldDN 0x34) 2 8 ∧
    decode [0b00010111] = .ok .rla 1 4 ∧
    decode [0b00011000, 0x34] = .ok (.jrRel 0x34) 2 12 ∧
    decode [0b00011001] = .ok .addHLDE 1 8 ∧
    decode [0b00011010] = .ok .ldAMDE 1 8 ∧
    decode [0b00011011] = .ok .decDE 1 8 ∧
    decode [0b00011100] = .ok .incE 1 4 ∧
    decode [0b00011101] = .ok .decE 1 4 ∧
    decode [0b00011110, 0x34] = .ok (.ldEN 0x34) 2 8 ∧
    decode [0b00011111] = .ok .rra 1 4 := by decide

/-- Row `0x20` of the primary map. -/
theorem test_decode_20 :
    decode [0b00100000, 0x34] = .ok (.jrNZRel 0x34) 2 8 ∧
    decode [0b00100001, 0x34, 0x12] = .ok (.ldHLNN 0x1234) 3 12 ∧
    decode [0b00100010] = .ok .ldMHLIncA 1 8 ∧
    decode [0b00100011] = .ok .incHL 1 8 ∧
    decode [0b00100100] = .ok .incH 1 4 ∧
    decode [0b00100101] = .ok .decH 1 4 ∧
    decode [0b00100110, 0x34] = .ok (.ldHN 0x34) 2 8 ∧
    decode [0b00100111] = .ok .daa 1 4 ∧
    decode [0b00101000, 0x34] = .ok (.jrZRel 0x34) 2 8 ∧
    decode [0b00101001] = .ok .addHLHL 1 8 ∧
    decode [0b00101010] = .ok .ldAMHLInc 1 8 ∧
    decode [0b00101011] = .ok .decHL 1 8 ∧
    decode [0b00101100] = .ok .incL 1 4 ∧
    decode [0b00101101] = .ok .decL 1 4 ∧
    decode [0b00101110, 0x34] = .ok (.ldLN 0x34) 2 8 ∧
    decode [0b00101111] = .ok .cpl 1 4 := by decide

/-- Row `0x30` of the primary map. -/
theorem test_decode_30 :
    decode [0b00110000, 0x34] = .ok (.jrNCRel 0x34) 2 8 ∧
    decode [0b00110001, 0x34, 0x12] = .ok (.ldSPNN 0x1234) 3 12 ∧
    decode [0b00110010] = .ok .ldMHLDecA 1 8 ∧
    decode [0b00110011] = .ok .incSP 1 8 ∧
    decode [0b00110100] = .ok .incMHL 1 12 ∧
    decode [0b00110101] = .ok .decMHL 1 12 ∧
    decode [0b00110110, 0x34] = .ok (.ldMHLN 0x34) 2 12 ∧
    decode [0b00110111] = .ok .scf 1 4 ∧
    decode [0b00111000, 0x34] = .ok (.jrCRel 0x34) 2 8 ∧
    decode [0b00111001] = .ok .addHLSP 1 8 ∧
    decode [0b00111010] = .ok .ldAMHLDec 1 8 ∧
    decode [0b00111011] = .ok .decSP 1 8 ∧
    decode [0b00111100] = .ok .incA 1 4 ∧
    decode [0b00111101] = .ok .decA 1 4 ∧
    decode [0b00111110, 0x34] = .ok (.ldAN 0x34) 2 8 ∧
    decode [0b00111111] = .ok .ccf 1 4 := by decide

/-- Row `0x40` of the primary map. -/
theorem test_decode_40 :
    decode [0b01000000] = .ok .ldBB 1 4 ∧
    decode [0b01000001] = .ok .ldBC 1 4 ∧
    decode [0b01000010] = .ok .ldBD 1 4 ∧
    decode [0b01000011] = .ok .ldBE 1 4 ∧
    decode [0b01000100] = .ok .ldBH 1 4 ∧
    decode [0b01000101] = .ok .ldBL 1 4 ∧
    decode [0b01000110] = .ok .ldBMHL 1 8 ∧
    decode [0b01000111] = .ok .ldBA 1 4 ∧
    decode [0b01001000] = .ok .ldCB 1 4 ∧
    decode [0b01001001] = .ok .ldCC 1 4 ∧
    decode [0b01001010] = .ok .ldCD 1 4 ∧
    decode [0b01001011] = .ok .ldCE 1 4 ∧
    decode [0b01001100] = .ok .ldCH 1 4 ∧
    decode [0b01001101] = .ok .ldCL 1 4 ∧
    decode [0b01001110] = .ok .ldCMHL 1 8 ∧
    decode [0b01001111] = .ok .ldCA 1 4 := by decide

/-- Row `0x50` of the primary map. -/
theorem test_decode_50 :
    decode [0b01010000] = .ok .ldDB 1 4 ∧
    decode [0b01010001] = .ok .ldDC 1 4 ∧
    decode [0b01010010] = .ok .ldDD 1 4 ∧
    decode [0b01010011] = .ok .ldDE 1 4 ∧
    decode [0b01010100] = .ok .ldDH 1 4 ∧
    decode [0b01010101] = .ok .ldDL 1 4 ∧
    decode [0b01010110] = .ok .ldDMHL 1 8 ∧
    decode [0b01010111] = .ok .ldDA 1 4 ∧
    decode [0b01011000] = .ok .ldEB 1 4 ∧
    decode [0b01011001] = .ok .ldEC 1 4 ∧
    decode [0b01011010] = .ok .ldED 1 4 ∧
    decode [0b01011011] = .ok .ldEE 1 4 ∧
    decode [0b01011100] = .ok .ldEH 1 4 ∧
    decode [0b01011101] = .ok .ldEL 1 4 ∧
    decode [0b01011110] = .ok .ldEMHL 1 8 ∧
    decode [0b01011111] = .ok .ldEA 1 4 := by decide

/-- Row `0x60` of the primary map. -/
theorem test_decode_60 :
    decode [0b01100000] = .ok .ldHB 1 4 ∧
    decode [0b01100001] = .ok .ldHC 1 4 ∧
    decode [0b01100010] = .ok .ldHD 1 4 ∧
    decode [0b01100011] = .ok .ldHE 1 4 ∧
    decode [0b01100100] = .ok .ldHH 1 4 ∧
    decode [0b01100101] = .ok .ldHL 1 4 ∧
    decode [0b01100110] = .ok .ldHMHL 1 8 ∧
    decode [0b01100111] = .ok .ldHA 1 4 ∧
    decode [0b01101000] = .ok .ldLB 1 4 ∧
    decode [0b01101001] = .ok .ldLC 1 4 ∧
    decode [0b01101010] = .ok .ldLD 1 4 ∧
    decode [0b01101011] = .ok .ldLE 1 4 ∧
    decode [0b01101100] = .ok .ldLH 1 4 ∧
    decode [0b01101101] = .ok .ldLL 1 4 ∧
    decode [0b01101110] = .ok .ldLMHL 1 8 ∧
    decode [0b01101111] = .ok .ldLA 1 4 := by decide

/-- Row `0x70` of the primary map. -/
theorem test_decode_70 :
    decode [0b01110000] = .ok .ldMHLB 1 8 ∧
    decode [0b01110001] = .ok .ldMHLC 1 8 ∧
    decode [0b01110010] = .ok .ldMHLD 1 8 ∧
    decode [0b01110011] = .ok .ldMHLE 1 8 ∧
    decode [0b01110100] = .ok .ldMHLH 1 8 ∧
    decode [0b01110101] = .ok .ldMHLL 1 8 ∧
    decode [0b01110110] = .ok .halt 1 4 ∧
    decode [0b01110111] = .ok .ldMHLA 1 8 ∧
    decode [0b01111000] = .ok .ldAB 1 4 ∧
    decode [0b01111001] = .ok .ldAC 1 4 ∧
    decode [0b01111010] = .ok .ldAD 1 4 ∧
    decode [0b01111011] = .ok .ldAE 1 4 ∧
    decode [0b01111100] = .ok .ldAH 1 4 ∧
    decode [0b01111101] = .ok .ldAL 1 4 ∧
    decode [0b01111110] = .ok .ldAMHL 1 8 ∧
    decode [0b01111111] = .ok .ldAA 1 4 := by decide

/-- Row `0x80` of the primary map. -/
theorem test_decode_80 :
    decode [0b10000000] = .ok .addAB 1 4 ∧
    decode [0b10000001] = .ok .addAC 1 4 ∧
    decode [0b10000010] = .ok .addAD 1 4 ∧
    decode [0b10000011] = .ok .addAE 1 4 ∧
    decode [0b10000100] = .ok .addAH 1 4 ∧
    decode [0b10000101] = .ok .addAL 1 4 ∧
    decode [0b10000110] = .ok .addAMHL 1 8 ∧
    decode [0b10000111] = .ok .addAA 1 4 ∧
    decode [0b10001000] = .ok .adcAB 1 4 ∧
    decode [0b10001001] = .ok .adcAC 1 4 ∧
    decode [0b10001010] = .ok .adcAD 1 4 ∧
    decode [0b10001011] = .ok .adcAE 1 4 ∧
    decode [0b10001100] = .ok .adcAH 1 4 ∧
    decode [0b10001101] = .ok .adcAL 1 4 ∧
    decode [0b10001110] = .ok .adcAMHL 1 8 ∧
    decode [0b10001111] = .ok .adcAA 1 4 := by decide

/-- Row `0x90` of the primary map. -/
theorem test_decode_90 :
    decode [0b10010000] = .ok .subB 1 4 ∧
    decode [0b10010001] = .ok .subC 1 4 ∧
    decode [0b10010010] = .ok .subD 1 4 ∧
    decode [0b10010011] = .ok .subE 1 4 ∧
    decode [0b10010100] = .ok .subH 1 4 ∧
    decode [0b10010101] = .ok .subL 1 4 ∧
    decode [0b10010110] = .ok .subMHL 1 8 ∧
    decode [0b10010111] = .ok .subA 1 4 ∧
    decode [0b10011000] = .ok .sbcAB 1 4 ∧
    decode [0b10011001] = .ok .sbcAC 1 4 ∧
    decode [0b10011010] = .ok .sbcAD 1 4 ∧
    decode [0b10011011] = .ok .sbcAE 1 4 ∧
    decode [0b10011100] = .ok .sbcAH 1 4 ∧
    decode [0b10011101] = .ok .sbcAL 1 4 ∧
    decode [0b10011110] = .ok .sbcAMHL 1 8 ∧
    decode [0b10011111] = .ok .sbcAA 1 4 := by decide

/-- Row `0xA0` of the primary map. -/
theorem test_decode_a0 :
    decode [0b10100000] = .ok .andB 1 4 ∧
    decode [0b10100001] = .ok .andC 1 4 ∧
    decode [0b10100010] = .ok .andD 1 4 ∧
    decode [0b10100011] = .ok .andE 1 4 ∧
    decode [0b10100100] = .ok .andH 1 4 ∧
    decode [0b10100101] = .ok .andL 1 4 ∧
    decode [0b10100110] = .ok .andMHL 1 8 ∧
    decode [0b10100111] = .ok .andA 1 4 ∧
    decode [0b10101000] = .ok .xorB 1 4 ∧
    decode [0b10101001] = .ok .xorC 1 4 ∧
    decode [0b10101010] = .ok .xorD 1 4 ∧
    decode [0b10101011] = .ok .xorE 1 4 ∧
    decode [0b10101100] = .ok .xorH 1 4 ∧
    decode [0b10101101] = .ok .xorL 1 4 ∧
    decode [0b10101110] = .ok .xorMHL 1 8 ∧
    decode [0b10101111] = .ok .xorA 1 4 := by decide

/-- Row `0xB0` of the primary map. -/
theorem test_decode_b0 :
    decode [0b10110000] = .ok .orB 1 4 ∧
    decode [0b10110001] = .ok .orC 1 4 ∧
    decode [0b10110010] = .ok .orD 1 4 ∧
    decode [0b10110011] = .ok .orE 1 4 ∧
    decode [0b10110100] = .ok .orH 1 4 ∧
    decode [0b10110101] = .ok .orL 1 4 ∧
    decode [0b10110110] = .ok .orMHL 1 8 ∧
    decode [0b10110111] = .ok .orA 1 4 ∧
    decode [0b10111000] = .ok .cpB 1 4 ∧
    decode [0b10111001] = .ok .cpC 1 4 ∧
    decode [0b10111010] = .ok .cpD 1 4 ∧
    decode [0b10111011] = .ok .cpE 1 4 ∧
    decode [0b10111100] = .ok .cpH 1 4 ∧
    decode [0b10111101] = .ok .cpL 1 4 ∧
    decode [0b10111110] = .ok .cpMHL 1 8 ∧
    decode [0b10111111] = .ok .cpA 1 4 := by decide

/-- Row `0xC0` of the primary map. -/
theorem test_decode_c0 :
    decode [0b11000000] = .ok .retNZ 1 8 ∧
    decode [0b11000001] = .ok .popBC 1 12 ∧
    decode [0b11000010, 0x34, 0x12] = .ok (.jpNZNN 0x1234) 3 12 ∧
    decode [0b11000011, 0x34, 0x12] = .ok (.jpNN 0x1234) 3 16 ∧
    decode [0b11000100, 0x34, 0x12] = .ok (.callNZNN 0x1234) 3 12 ∧
    decode [0b11000101] = .ok .pushBC 1 16 ∧
    decode [0b11000110, 0x34] = .ok (.addAN 0x34) 2 8 ∧
    decode [0b11000111] = .ok .rst00 1 16 ∧
    decode [0b11001000] = .ok .retZ 1 8 ∧
    decode [0b11001001] = .ok .ret 1 16 ∧
    decode [0b11001010, 0x34, 0x12] = .ok (.jpZNN 0x1234) 3 12 ∧
    decode [0b11001100, 0x34, 0x12] = .ok (.callZNN 0x1234) 3 12 ∧
    decode [0b11001101, 0x34, 0x12] = .ok (.callNN 0x1234) 3 24 ∧
    decode [0b11001110, 0x34] = .ok (.adcAN 0x34) 2 8 ∧
    decode [0b11001111] = .ok .rst08 1 16 := by decide

/-- Row `0xD0` of the primary map. -/
theorem test_decode_d0 :
    decode [0b11010000] = .ok .retNC 1 8 ∧
    decode [0b11010001] = .ok .popDE 1 12 ∧
    decode [0b11010010, 0x34, 0x12] = .ok (.jpNCNN 0x1234) 3 12 ∧
    decode [0b11010011] = .ok .undefD3 1 0 ∧
    decode [0b11010100, 0x34, 0x12] = .ok (.callNCNN 0x1234) 3 12 ∧
    decode [0b11010101] = .ok .pushDE 1 16 ∧
    decode [0b11010110, 0x34] = .ok (.subN 0x34) 2 8 ∧
    decode [0b11010111] = .ok .rst10 1 16 ∧
    decode [0b11011000] = .ok .retC 1 8 ∧
    decode [0b11011001] = .ok .reti 1 16 ∧
    decode [0b11011010, 0x34, 0x12] = .ok (.jpCNN 0x1234) 3 12 ∧
    decode [0b11011011] = .ok .undefDB 1 0 ∧
    decode [0b11011100, 0x34, 0x12] = .ok (.callCNN 0x1234) 3 12 ∧
    decode [0b11011101] = .ok .undefDD 1 0 ∧
    decode [0b11011110, 0x34] = .ok (.sbcAN 0x34) 2 8 ∧
    decode [0b11011111] = .ok .rst18 1 16 := by decide

/-- Row `0xE0` of the primary map. -/
theorem test_decode_e0 :
    decode [0b11100000, 0x34] = .ok (.ldhMNA 0x34) 2 12 ∧
    decode [0b11100001] = .ok .popHL 1 12 ∧
    decode [0b11100010] = .ok .ldMCA 1 8 ∧
    decode [0b11100011] = .ok .undefE3 1 0 ∧
    decode [0b11100100] = .ok .undefE4 1 0 ∧
    decode [0b11100101] = .ok .pushHL 1 16 ∧
    decode [0b11100110, 0x34] = .ok (.andN 0x34) 2 8 ∧
    decode [0b11100111] = .ok .rst20 1 16 ∧
    decode [0b11101000, 0x34] = .ok (.addSPRel 0x34) 2 16 ∧
    decode [0b11101001] = .ok .jpHL 1 4 ∧
    decode [0b11101010, 0x34, 0x12] = .ok (.ldMNNA 0x1234) 3 16 ∧
    decode [0b11101011] = .ok .undefEB 1 0 ∧
    decode [0b11101100] = .ok .undefEC 1 0 ∧
    decode [0b11101101] = .ok .undefED 1 0 ∧
    decode [0b11101110, 0x34] = .ok (.xorN 0x34) 2 8 ∧
    decode [0b11101111] = .ok .rst28 1 16 := by decide

/-- Row `0xF0` of the primary map. -/
theorem test_decode_f0 :
    decode [0b11110000, 0x34] = .ok (.ldhAMN 0x34) 2 12 ∧
    decode [0b11110001] = .ok .popAF 1 12 ∧
    decode [0b11110010] = .ok .ldAMC 1 8 ∧
    decode [0b11110011] = .ok .di 1 4 ∧
    decode [0b11110100] = .ok .undefF4 1 0 ∧
    decode [0b11110101] = .ok .pushAF 1 16 ∧
    decode [0b11110110, 0x34] = .ok (.orN 0x34) 2 8 ∧
    decode [0b11110111] = .ok .rst30 1 16 ∧
    decode [0b11111000, 0x34] = .ok (.ldHLSPRel 0x34) 2 12 ∧
    decode [0b11111001] = .ok .ldSPHL 1 8 ∧
    decode [0b11111010, 0x34, 0x12] = .ok (.ldAMNN 0x1234) 3 16 ∧
    decode [0b11111011] = .ok .ei 1 4 ∧
    decode [0b11111100] = .ok .undefFC 1 0 ∧
    decode [0b11111101] = .ok .undefFD 1 0 ∧
    decode [0b11111110, 0x34] = .ok (.cpN 0x34) 2 8 ∧
    decode [0b11111111] = .ok .rst38 1 16 := by decide

/-- Row `0x00` of the `0xCB` page. -/
theorem test_decode_page_00 :
    decode [0b11001011, 0b00000000] = .ok .rlcB 2 8 ∧
    decode [0b11001011, 0b00000001] = .ok .rlcC 2 8 ∧
    decode [0b11001011, 0b00000010] = .ok .rlcD 2 8 ∧
    decode [0b11001011, 0b00000011] = .ok .rlcE 2 8 ∧
    decode [0b11001011, 0b00000100] = .ok .rlcH 2 8 ∧
    decode [0b11001011, 0b00000101] = .ok .rlcL 2 8 ∧
    decode [0b11001011, 0b00000110] = .ok .rlcMHL 2 16 ∧
    decode [0b11001011, 0b00000111] = .ok .rlcA 2 8 ∧
    decode [0b11001011, 0b00001000] = .ok .rrcB 2 8 ∧
    decode [0b11001011, 0b00001001] = .ok .rrcC 2 8 ∧
    decode [0b11001011, 0b00001010] = .ok .rrcD 2 8 ∧
    decode [0b11001011, 0b00001011] = .ok .rrcE 2 8 ∧
    decode [0b11001011, 0b00001100] = .ok .rrcH 2 8 ∧
    decode [0b11001011, 0b00001101] = .ok .rrcL 2 8 ∧
    decode [0b11001011, 0b00001110] = .ok .rrcMHL 2 16 ∧
    decode [0b11001011, 0b00001111] = .ok .rrcA 2 8 := by decide

/-- Row `0x10` of the `0xCB` page. -/
theorem test_decode_page_10 :
    decode [0b11001011, 0b00010000] = .ok .rlB 2 8 ∧
    decode [0b11001011, 0b00010001] = .ok .rlC 2 8 ∧
    decode [0b11001011, 0b00010010] = .ok .rlD 2 8 ∧
    decode [0b11001011, 0b00010011] = .ok .rlE 2 8 ∧
    decode [0b11001011, 0b00010100] = .ok .rlH 2 8 ∧
    decode [0b11001011, 0b00010101] = .ok .rlL 2 8 ∧
    decode [0b11001011, 0b00010110] = .ok .rlMHL 2 16 ∧
    decode [0b11001011, 0b00010111] = .ok .rlA 2 8 ∧
    decode [0b11001011, 0b00011000] = .ok .rrB 2 8 ∧
    decode [0b11001011, 0b00011001] = .ok .rrC 2 8 ∧
    decode [0b11001011, 0b00011010] = .ok .rrD 2 8 ∧
    decode [0b11001011, 0b00011011] = .ok .rrE 2 8 ∧
    decode [0b11001011, 0b00011100] = .ok .rrH 2 8 ∧
    decode [0b11001011, 0b00011101] = .ok .rrL 2 8 ∧
    decode [0b11001011, 0b00011110] = .ok .rrMHL 2 16 ∧
    decode [0b11001011, 0b00011111] = .ok .rrA 2 8 := by decide

/-- Row `0x20` of the `0xCB` page. -/
theorem test_decode_page_20 :
    decode [0b11001011, 0b00100000] = .ok .slaB 2 8 ∧
    decode [0b11001011, 0b00100001] = .ok .slaC 2 8 ∧
    decode [0b11001011, 0b00100010] = .ok .slaD 2 8 ∧
    decode [0b11001011, 0b00100011] = .ok .slaE 2 8 ∧
    decode [0b11001011, 0b00100100] = .ok .slaH 2 8 ∧
    decode [0b11001011, 0b00100101] = .ok .slaL 2 8 ∧
    decode [0b11001011, 0b00100110] = .ok .slaMHL 2 16 ∧
    decode [0b11001011, 0b00100111] = .ok .slaA 2 8 ∧
    decode [0b11001011, 0b00101000] = .ok .sraB 2 8 ∧
    decode [0b11001011, 0b00101001] = .ok .sraC 2 8 ∧
    decode [0b11001011, 0b00101010] = .ok .sraD 2 8 ∧
    decode [0b11001011, 0b00101011] = .ok .sraE 2 8 ∧
    decode [0b11001011, 0b00101100] = .ok .sraH 2 8 ∧
    decode [0b11001011, 0b00101101] = .ok .sraL 2 8 ∧
    decode [0b11001011, 0b00101110] = .ok .sraMHL 2 16 ∧
    decode [0b11001011, 0b00101111] = .ok .sraA 2 8 := by decide

/-- Row `0x30` of the `0xCB` page. -/
theorem test_decode_page_30 :
    decode [0b11001011, 0b00110000] = .ok .swapB 2 8 ∧
    decode [0b11001011, 0b00110001] = .ok .swapC 2 8 ∧
    decode [0b11001011, 0b00110010] = .ok .swapD 2 8 ∧
    decode [0b11001011, 0b00110011] = .ok .swapE 2 8 ∧
    decode [0b11001011, 0b00110100] = .ok .swapH 2 8 ∧
    decode [0b11001011, 0b00110101] = .ok .swapL 2 8 ∧
    decode [0b11001011, 0b00110110] = .ok .swapMHL 2 16 ∧
    decode [0b11001011, 0b00110111] = .ok .swapA 2 8 ∧
    decode [0b11001011, 0b00111000] = .ok .srlB 2 8 ∧
    decode [0b11001011, 0b00111001] = .ok .srlC 2 8 ∧
    decode [0b11001011, 0b00111010] = .ok .srlD 2 8 ∧
    decode [0b11001011, 0b00111011] = .ok .srlE 2 8 ∧
    decode [0b11001011, 0b00111100] = .ok .srlH 2 8 ∧
    decode [0b11001011, 0b00111101] = .ok .srlL 2 8 ∧
    decode [0b11001011, 0b00111110] = .ok .srlMHL 2 16 ∧
    decode [0b11001011, 0b00111111] = .ok .srlA 2 8 := by decide

/-- Row `0x40` of the `0xCB` page. -/
theorem test_decode_page_40 :
    decode [0b11001011, 0b01000000] = .ok .bit0B 2 8 ∧
    decode [0b11001011, 0b01000001] = .ok .bit0C 2 8 ∧
    decode [0b11001011, 0b01000010] = .ok .bit0D 2 8 ∧
    decode [0b11001011, 0b01000011] = .ok .bit0E 2 8 ∧
    decode [0b11001011, 0b01000100] = .ok .bit0H 2 8 ∧
    decode [0b11001011, 0b01000101] = .ok .bit0L 2 8 ∧
    decode [0b11001011, 0b01000110] = .ok .bit0MHL 2 12 ∧
    decode [0b11001011, 0b01000111] = .ok .bit0A 2 8 ∧
    decode [0b11001011, 0b01001000] = .ok .bit1B 2 8 ∧
    decode [0b11001011, 0b01001001] = .ok .bit1C 2 8 ∧
    decode [0b11001011, 0b01001010] = .ok .bit1D 2 8 ∧
    decode [0b11001011, 0b01001011] = .ok .bit1E 2 8 ∧
    decode [0b11001011, 0b01001100] = .ok .bit1H 2 8 ∧
    decode [0b11001011, 0b01001101] = .ok .bit1L 2 8 ∧
    decode [0b11001011, 0b01001110] = .ok .bit1MHL 2 12 ∧
    decode [0b11001011, 0b01001111] = .ok .bit1A 2 8 := by decide

/-- Row `0x50` of the `0xCB` page. -/
theorem test_decode_page_50 :
    decode [0b11001011, 0b01010000] = .ok .bit2B 2 8 ∧
    decode [0b11001011, 0b01010001] = .ok .bit2C 2 8 ∧
    decode [0b11001011, 0b01010010] = .ok .bit2D 2 8 ∧
    decode [0b11001011, 0b01010011] = .ok .bit2E 2 8 ∧
    decode [0b11001011, 0b01010100] = .ok .bit2H 2 8 ∧
    decode [0b11001011, 0b01010101] = .ok .bit2L 2 8 ∧
    decode [0b11001011, 0b01010110] = .ok .bit2MHL 2 12 ∧
    decode [0b11001011, 0b01010111] = .ok .bit2A 2 8 ∧
    decode [0b11001011, 0b01011000] = .ok .bit3B 2 8 ∧
    decode [0b11001011, 0b01011001] = .ok .bit3C 2 8 ∧
    decode [0b11001011, 0b01011010] = .ok .bit3D 2 8 ∧
    decode [0b11001011, 0b01011011] = .ok .bit3E 2 8 ∧
    decode [0b11001011, 0b01011100] = .ok .bit3H 2 8 ∧
    decode [0b11001011, 0b01011101] = .ok .bit3L 2 8 ∧
    decode [0b11001011, 0b01011110] = .ok .bit3MHL 2 12 ∧
    decode [0b11001011, 0b01011111] = .ok .bit3A 2 8 := by decide

/-- Row `0x60` of the `0xCB` page. -/
theorem test_decode_page_60 :
    decode [0b11001011, 0b01100000] = .ok .bit4B 2 8 ∧
    decode [0b11001011, 0b01100001] = .ok .bit4C 2 8 ∧
    decode [0b11001011, 0b01100010] = .ok .bit4D 2 8 ∧
    decode [0b11001011, 0b01100011] = .ok .bit4E 2 8 ∧
    decode [0b11001011, 0b01100100] = .ok .bit4H 2 8 ∧
    decode [0b11001011, 0b01100101] = .ok .bit4L 2 8 ∧
    decode [0b11001011, 0b01100110] = .ok .bit4MHL 2 12 ∧
    decode [0b11001011, 0b01100111] = .ok .bit4A 2 8 ∧
    decode [0b11001011, 0b01101000] = .ok .bit5B 2 8 ∧
    decode [0b11001011, 0b01101001] = .ok .bit5C 2 8 ∧
    decode [0b11001011, 0b01101010] = .ok .bit5D 2 8 ∧
    decode [0b11001011, 0b01101011] = .ok .bit5E 2 8 ∧
    decode [0b11001011, 0b01101100] = .ok .bit5H 2 8 ∧
    decode [0b11001011, 0b01101101] = .ok .bit5L 2 8 ∧
    decode [0b11001011, 0b01101110] = .ok .bit5MHL 2 12 ∧
    decode [0b11001011, 0b01101111] = .ok .bit5A 2 8 := by decide

/-- Row `0x70` of the `0xCB` page. -/
theorem test_decode_page_70 :
    decode [0b11001011, 0b01110000] = .ok .bit6B 2 8 ∧
    decode [0b11001011, 0b01110001] = .ok .bit6C 2 8 ∧
    decode [0b11001011, 0b01110010] = .ok .bit6D 2 8 ∧
    decode [0b11001011, 0b01110011] = .ok .bit6E 2 8 ∧
    decode [0b11001011, 0b01110100] = .ok .bit6H 2 8 ∧
    decode [0b11001011, 0b01110101] = .ok .bit6L 2 8 ∧
    decode [0b11001011, 0b01110110] = .ok .bit6MHL 2 12 ∧
    decode [0b11001011, 0b01110111] = .ok .bit6A 2 8 ∧
    decode [0b11001011, 0b01111000] = .ok .bit7B 2 8 ∧
    decode [0b11001011, 0b01111001] = .ok .bit7C 2 8 ∧
    decode [0b11001011, 0b01111010] = .ok .bit7D 2 8 ∧
    decode [0b11001011, 0b01111011] = .ok .bit7E 2 8 ∧
    decode [0b11001011, 0b01111100] = .ok .bit7H 2 8 ∧
    decode [0b11001011, 0b01111101] = .ok .bit7L 2 8 ∧
    decode [0b11001011, 0b01111110] = .ok .bit7MHL 2 12 ∧
    decode [0b11001011, 0b01111111] = .ok .bit7A 2 8 := by decide

/-- Row `0x80` of the `0xCB` page. -/
theorem test_decode_page_80 :
    decode [0b11001011, 0b10000000] = .ok .res0B 2 8 ∧
    decode [0b11001011, 0b10000001] = .ok .res0C 2 8 ∧
    decode [0b11001011, 0b10000010] = .ok .res0D 2 8 ∧
    decode [0b11001011, 0b10000011] = .ok .res0E 2 8 ∧
    decode [0b11001011, 0b10000100] = .ok .res0H 2 8 ∧
    decode [0b11001011, 0b10000101] = .ok .res0L 2 8 ∧
    decode [0b11001011, 0b10000110] = .ok .res0MHL 2 16 ∧
    decode [0b11001011, 0b10000111] = .ok .res0A 2 8 ∧
    decode [0b11001011, 0b10001000] = .ok .res1B 2 8 ∧
    decode [0b11001011, 0b10001001] = .ok .res1C 2 8 ∧
    decode [0b11001011, 0b10001010] = .ok .res1D 2 8 ∧
    decode [0b11001011, 0b10001011] = .ok .res1E 2 8 ∧
    decode [0b11001011, 0b10001100] = .ok .res1H 2 8 ∧
    decode [0b11001011, 0b10001101] = .ok .res1L 2 8 ∧
    decode [0b11001011, 0b10001110] = .ok .res1MHL 2 16 ∧
    decode [0b11001011, 0b10001111] = .ok .res1A 2 8 := by decide

/-- Row `0x90` of the `0xCB` page. -/
theorem test_decode_page_90 :
    decode [0b11001011, 0b10010000] = .ok .res2B 2 8 ∧
    decode [0b11001011, 0b10010001] = .ok .res2C 2 8 ∧
    decode [0b11001011, 0b10010010] = .ok .res2D 2 8 ∧
    decode [0b11001011, 0b10010011] = .ok .res2E 2 8 ∧
    decode [0b11001011, 0b10010100] = .ok .res2H 2 8 ∧
    decode [0b11001011, 0b10010101] = .ok .res2L 2 8 ∧
    decode [0b11001011, 0b10010110] = .ok .res2MHL 2 16 ∧
    decode [0b11001011, 0b10010111] = .ok .res2A 2 8 ∧
    decode [0b11001011, 0b10011000] = .ok .res3B 2 8 ∧
    decode [0b11001011, 0b10011001] = .ok .res3C 2 8 ∧
    decode [0b11001011, 0b10011010] = .ok .res3D 2 8 ∧
    decode [0b11001011, 0b10011011] = .ok .res3E 2 8 ∧
    decode [0b11001011, 0b10011100] = .ok .res3H 2 8 ∧
    decode [0b11001011, 0b10011101] = .ok .res3L 2 8 ∧
    decode [0b11001011, 0b10011110] = .ok .res3MHL 2 16 ∧
    decode [0b11001011, 0b10011111] = .ok .res3A 2 8 := by decide

/-- Row `0xA0` of the `0xCB` page. -/
theorem test_decode_page_a0 :
    decode [0b11001011, 0b10100000] = .ok .res4B 2 8 ∧
    decode [0b11001011, 0b10100001] = .ok .res4C 2 8 ∧
    decode [0b11001011, 0b10100010] = .ok .res4D 2 8 ∧
    decode [0b11001011, 0b10100011] = .ok .res4E 2 8 ∧
    decode [0b11001011, 0b10100100] = .ok .res4H 2 8 ∧
    decode [0b11001011, 0b10100101] = .ok .res4L 2 8 ∧
    decode [0b11001011, 0b10100110] = .ok .res4MHL 2 16 ∧
    decode [0b11001011, 0b10100111] = .ok .res4A 2 8 ∧
    decode [0b11001011, 0b10101000] = .ok .res5B 2 8 ∧
    decode [0b11001011, 0b10101001] = .ok .res5C 2 8 ∧
    decode [0b11001011, 0b10101010] = .ok .res5D 2 8 ∧
    decode [0b11001011, 0b10101011] = .ok .res5E 2 8 ∧
    decode [0b11001011, 0b10101100] = .ok .res5H 2 8 ∧
    decode [0b11001011, 0b10101101] = .ok .res5L 2 8 ∧
    decode [0b11001011, 0b10101110] = .ok .res5MHL 2 16 ∧
    decode [0b11001011, 0b10101111] = .ok .res5A 2 8 := by decide

/-- Row `0xB0` of the `0xCB` page. -/
theorem test_decode_page_b0 :
    decode [0b11001011, 0b10110000] = .ok .res6B 2 8 ∧
    decode [0b11001011, 0b10110001] = .ok .res6C 2 8 ∧
    decode [0b11001011, 0b10110010] = .ok .res6D 2 8 ∧
    decode [0b11001011, 0b10110011] = .ok .res6E 2 8 ∧
    decode [0b11001011, 0b10110100] = .ok .res6H 2 8 ∧
    decode [0b11001011, 0b10110101] = .ok .res6L 2 8 ∧
    decode [0b11001011, 0b10110110] = .ok .res6MHL 2 16 ∧
    decode [0b11001011, 0b10110111] = .ok .res6A 2 8 ∧
    decode [0b11001011, 0b10111000] = .ok .res7B 2 8 ∧
    decode [0b11001011, 0b10111001] = .ok .res7C 2 8 ∧
    decode [0b11001011, 0b10111010] = .ok .res7D 2 8 ∧
    decode [0b11001011, 0b10111011] = .ok .res7E 2 8 ∧
    decode [0b11001011, 0b10111100] = .ok .res7H 2 8 ∧
    decode [0b11001011, 0b10111101] = .ok .res7L 2 8 ∧
    decode [0b11001011, 0b10111110] = .ok .res7MHL 2 16 ∧
    decode [0b11001011, 0b10111111] = .ok .res7A 2 8 := by decide

/-- Row `0xC0` of the `0xCB` page. -/
theorem test_decode_page_c0 :
    decode [0b11001011, 0b11000000] = .ok .set0B 2 8 ∧
    decode [0b11001011, 0b11000001] = .ok .set0C 2 8 ∧
    decode [0b11001011, 0b11000010] = .ok .set0D 2 8 ∧
    decode [0b11001011, 0b11000011] = .ok .set0E 2 8 ∧
    decode [0b11001011, 0b11000100] = .ok .set0H 2 8 ∧
    decode [0b11001011, 0b11000101] = .ok .set0L 2 8 ∧
    decode [0b11001011, 0b11000110] = .ok .set0MHL 2 16 ∧
    decode [0b11001011, 0b11000111] = .ok .set0A 2 8 ∧
    decode [0b11001011, 0b11001000] = .ok .set1B 2 8 ∧
    decode [0b11001011, 0b11001001] = .ok .set1C 2 8 ∧
    decode [0b11001011, 0b11001010] = .ok .set1D 2 8 ∧
    decode [0b11001011, 0b11001011] = .ok .set1E 2 8 ∧
    decode [0b11001011, 0b11001100] = .ok .set1H 2 8 ∧
    decode [0b11001011, 0b11001101] = .ok .set1L 2 8 ∧
    decode [0b11001011, 0b11001110] = .ok .set1MHL 2 16 ∧
    decode [0b11001011, 0b11001111] = .ok .set1A 2 8 := by decide

/-- Row `0xD0` of the `0xCB` page. -/
theorem test_decode_page_d0 :
    decode [0b11001011, 0b11010000] = .ok .set2B 2 8 ∧
    decode [0b11001011, 0b11010001] = .ok .set2C 2 8 ∧
    decode [0b11001011, 0b11010010] = .ok .set2D 2 8 ∧
    decode [0b11001011, 0b11010011] = .ok .set2E 2 8 ∧
    decode [0b11001011, 0b11010100] = .ok .set2H 2 8 ∧
    decode [0b11001011, 0b11010101] = .ok .set2L 2 8 ∧
    decode [0b11001011, 0b11010110] = .ok .set2MHL 2 16 ∧
    decode [0b11001011, 0b11010111] = .ok .set2A 2 8 ∧
    decode [0b11001011, 0b11011000] = .ok .set3B 2 8 ∧
    decode [0b11001011, 0b11011001] = .ok .set3C 2 8 ∧
    decode [0b11001011, 0b11011010] = .ok .set3D 2 8 ∧
    decode [0b11001011, 0b11011011] = .ok .set3E 2 8 ∧
    decode [0b11001011, 0b11011100] = .ok .set3H 2 8 ∧
    decode [0b11001011, 0b11011101] = .ok .set3L 2 8 ∧
    decode [0b11001011, 0b11011110] = .ok .set3MHL 2 16 ∧
    decode [0b11001011, 0b11011111] = .ok .set3A 2 8 := by decide

/-- Row `0xE0` of the `0xCB` page. -/
theorem test_decode_page_e0 :
    decode [0b11001011, 0b11100000] = .ok .set4B 2 8 ∧
    decode [0b11001011, 0b11100001] = .ok .set4C 2 8 ∧
    decode [0b11001011, 0b11100010] = .ok .set4D 2 8 ∧
    decode [0b11001011, 0b11100011] = .ok .set4E 2 8 ∧
    decode [0b11001011, 0b11100100] = .ok .set4H 2 8 ∧
    decode [0b11001011, 0b11100101] = .ok .set4L 2 8 ∧
    decode [0b11001011, 0b11100110] = .ok .set4MHL 2 16 ∧
    decode [0b11001011, 0b11100111] = .ok .set4A 2 8 ∧
    decode [0b11001011, 0b11101000] = .ok .set5B 2 8 ∧
    decode [0b11001011, 0b11101001] = .ok .set5C 2 8 ∧
    decode [0b11001011, 0b11101010] = .ok .set5D 2 8 ∧
    decode [0b11001011, 0b11101011] = .ok .set5E 2 8 ∧
    decode [0b11001011, 0b11101100] = .ok .set5H 2 8 ∧
    decode [0b11001011, 0b11101101] = .ok .set5L 2 8 ∧
    decode [0b11001011, 0b11101110] = .ok .set5MHL 2 16 ∧
    decode [0b11001011, 0b11101111] = .ok .set5A 2 8 := by decide

/-- Row `0xF0` of the `0xCB` page. -/
theorem test_decode_page_f0 :
    decode [0b11001011, 0b11110000] = .ok .set6B 2 8 ∧
    decode [0b11001011, 0b11110001] = .ok .set6C 2 8 ∧
    decode [0b11001011, 0b11110010] = .ok .set6D 2 8 ∧
    decode [0b11001011, 0b11110011] = .ok .set6E 2 8 ∧
    decode [0b11001011, 0b11110100] = .ok .set6H 2 8 ∧
    decode [0b11001011, 0b11110101] = .ok .set6L 2 8 ∧
    decode [0b11001011, 0b11110110] = .ok .set6MHL 2 16 ∧
    decode [0b11001011, 0b11110111] = .ok .set6A 2 8 ∧
    decode [0b11001011, 0b11111000] = .ok .set7B 2 8 ∧
    decode [0b11001011, 0b11111001] = .ok .set7C 2 8 ∧
    decode [0b11001011, 0b11111010] = .ok .set7D 2 8 ∧
    decode [0b11001011, 0b11111011] = .ok .set7E 2 8 ∧
    decode [0b11001011, 0b11111100] = .ok .set7H 2 8 ∧
    decode [0b11001011, 0b11111101] = .ok .set7L 2 8 ∧
    decode [0b11001011, 0b11111110] = .ok .set7MHL 2 16 ∧
    decode [0b11001011, 0b11111111] = .ok .set7A 2 8 := by decide

/-- The prefix with no byte after it, and an instruction short of its immediate, are rejected. -/
theorem test_decode_rejects : decode [] = .reject .noByte ∧ decode [0xCB] = .reject (.missingByte 0xCB) ∧
    decode [0x06] = .reject (.missingByte 0x06) ∧ decode [0xC3, 0x50] = .reject (.missingByte 0xC3) := by decide

/-- The table's numbers of rows: the first byte lowest, and the `0xCB` page as `0xCB` and its opcode. -/
theorem test_decodeTableWord : decodeTableWord 8 0x78 = some .ldAB ∧ decodeTableWord 16 0x1206 = some (.ldBN 0x12) ∧
    decodeTableWord 24 0x1234C3 = some (.jpNN 0x1234) ∧ decodeTableWord 16 0xCB2C = some .sraH ∧
    decodeTableWord 8 0xC3 = some (.jpNN 0x0000) := by decide

/-- A placed word is what the next step from reset runs. -/
theorem test_withFetchWord :
    fetch (State.reset.withFetchWord 24 0x1234C3) State.reset.pc = .ok [0xC3, 0x34, 0x12] := by decide

/-! ## One step: vectors of spec/95_test_vectors.md section 2 -/

/-- The launch values of section 2, with the reference peripheral and the parameters it states. -/
def launched : State :=
  { State.reset with
    periph := .reference []
    params := { mbc1ModeWrite := .bit0, eiDelay := false, intDispatchCycles := 20, dmaCycles := 0 } }

/-- The state with bytes where PC points, placed from outside. -/
def withCode (s : State) (bytes : List Byte) : State := placeBytes s s.pc bytes

/-- A part of the state after one step, or nothing where the step stops. -/
def after {α : Type} (s : State) (part : State → α) : Option α :=
  match step s with
  | .next t => some (part t)
  | _ => none

/-- The fault one step ends in. -/
def faultOf (s : State) : Option Fault :=
  match step s with
  | .fault e => some e
  | _ => none

/-- Ld1: LD B,C. -/
theorem test_Ld1 :
    after (withCode { launched with regs := { launched.regs with b := 0x00, c := 0x5A }, pc := 0xC000 }
      [0x41])
      (fun t => (t.regs.b, t.pc, t.stepCycles)) =
    some (0x5A, 0xC001, 4) := by decide

/-- Ld3: LD E,0x99. -/
theorem test_Ld3 :
    after (withCode { launched with regs := { launched.regs with e := 0x00 }, pc := 0xC000 }
      [0x1E, 0x99])
      (fun t => (t.regs.e, t.pc, t.stepCycles)) =
    some (0x99, 0xC002, 8) := by decide

/-- Ld4: LD D,(HL). -/
theorem test_Ld4 :
    after (withCode { launched with
        regs := { launched.regs with d := 0x00, h := 0xC1, l := 0x00 }
        pc := 0xC000
        wram := [(256, 0x77)] }
      [0x56])
      (fun t => (t.regs.d, t.pc, t.stepCycles)) =
    some (0x77, 0xC001, 8) := by decide

/-- Ld5: LD (HL),A. -/
theorem test_Ld5 :
    after (withCode { launched with regs := { launched.regs with a := 0x42, h := 0xC1, l := 0x00 }, pc := 0xC000 }
      [0x77])
      (fun t => (t.pc, t.byteAt 0xC100, t.stepCycles)) =
    some (0xC001, 0x42, 8) := by decide

/-- Ld6: LD (HL),0x3E. -/
theorem test_Ld6 :
    after (withCode { launched with regs := { launched.regs with h := 0xFF, l := 0x80 }, pc := 0xC000 }
      [0x36, 0x3E])
      (fun t => (t.pc, t.byteAt 0xFF80, t.stepCycles)) =
    some (0xC002, 0x3E, 12) := by decide

/-- Ld7: LD (HL),A with HL in ROM bank 0 window. -/
theorem test_Ld7 :
    after (withCode { launched with regs := { launched.regs with a := 0x0A, h := 0x00, l := 0x00 }, pc := 0xC000 }
      [0x77])
      (fun t => (t.pc, t.mbc.ramEnable, t.stepCycles)) =
    some (0xC001, true, 8) := by decide

/-- Ld8: LD A,(BC). -/
theorem test_Ld8 :
    after (withCode { launched with
        regs := { launched.regs with a := 0x00, b := 0xC1, c := 0x23 }
        pc := 0xC000
        wram := [(291, 0x5C)] }
      [0x0A])
      (fun t => (t.regs.a, t.pc, t.stepCycles)) =
    some (0x5C, 0xC001, 8) := by decide

/-- Ld11: LD (DE),A. -/
theorem test_Ld11 :
    after (withCode { launched with regs := { launched.regs with a := 0x22, d := 0xE0, e := 0x10 }, pc := 0xC000 }
      [0x12])
      (fun t => (t.pc, t.byteAt 0xC010, t.stepCycles)) =
    some (0xC001, 0x22, 8) := by decide

/-- Ld13: LD (0xC200),A. -/
theorem test_Ld13 :
    after (withCode { launched with regs := { launched.regs with a := 0x9C }, pc := 0xC000 }
      [0xEA, 0x00, 0xC2])
      (fun t => (t.pc, t.byteAt 0xC200, t.stepCycles)) =
    some (0xC003, 0x9C, 16) := by decide

/-- Ld14: LDH A,(0x80). -/
theorem test_Ld14 :
    after (withCode { launched with regs := { launched.regs with a := 0x00 }, pc := 0xC000, hram := [(0, 0x61)] }
      [0xF0, 0x80])
      (fun t => (t.regs.a, t.pc, t.stepCycles)) =
    some (0x61, 0xC002, 12) := by decide

/-- Ld16: LDH A,(0x50). -/
theorem test_Ld16 : faultOf (withCode { launched with regs := { launched.regs with a := 0x00 }, pc := 0xC000 }
      [0xF0, 0x50]) =
    some (.unmappedAddress 0xFF50) := by decide

/-- Ld17: LDH (0xFF),A. -/
theorem test_Ld17 :
    after (withCode { launched with regs := { launched.regs with a := 0x05 }, pc := 0xC000 }
      [0xE0, 0xFF])
      (fun t => (t.pc, t.ieReg, t.stepCycles)) =
    some (0xC002, 0x05, 12) := by decide

/-- Ld18: LD A,(C). -/
theorem test_Ld18 :
    after (withCode { launched with
        regs := { launched.regs with a := 0x00, c := 0x85 }
        pc := 0xC000
        hram := [(5, 0xE7)] }
      [0xF2])
      (fun t => (t.regs.a, t.pc, t.stepCycles)) =
    some (0xE7, 0xC001, 8) := by decide

/-- Ld19: LD (C),A. -/
theorem test_Ld19 :
    after (withCode { launched with regs := { launched.regs with a := 0x01, c := 0x0F }, pc := 0xC000 }
      [0xE2])
      (fun t => (t.pc, t.ifReg, t.stepCycles)) =
    some (0xC001, 0x01, 8) := by decide

/-- Ld20: LD A,(HL+). -/
theorem test_Ld20 :
    after (withCode { launched with
        regs := { launched.regs with a := 0x00, h := 0xC0, l := 0xFF }
        pc := 0xC000
        wram := [(255, 0x12)] }
      [0x2A])
      (fun t => (t.regs.a, t.regs.h, t.regs.l, t.pc, t.stepCycles)) =
    some (0x12, 0xC1, 0x00, 0xC001, 8) := by decide

/-- Ld22: LD (HL+),A at HL=0xFFFF. -/
theorem test_Ld22 :
    after (withCode { launched with regs := { launched.regs with a := 0x1F, h := 0xFF, l := 0xFF }, pc := 0xC000 }
      [0x22])
      (fun t => (t.regs.h, t.regs.l, t.pc, t.ieReg, t.stepCycles)) =
    some (0x00, 0x00, 0xC001, 0x1F, 8) := by decide

/-- Ld23: LD (HL-),A at HL=0xC000. -/
theorem test_Ld23 :
    after (withCode { launched with regs := { launched.regs with a := 0x66, h := 0xC0, l := 0x00 }, pc := 0xC010 }
      [0x32])
      (fun t => (t.regs.h, t.regs.l, t.pc, t.byteAt 0xC000, t.stepCycles)) =
    some (0xBF, 0xFF, 0xC011, 0x66, 8) := by decide

/-- Ld24: LD BC,0x1234. -/
theorem test_Ld24 :
    after (withCode { launched with regs := { launched.regs with b := 0x00, c := 0x00 }, pc := 0xC000 }
      [0x01, 0x34, 0x12])
      (fun t => (t.regs.b, t.regs.c, t.pc, t.stepCycles)) =
    some (0x12, 0x34, 0xC003, 12) := by decide

/-- Ld26: LD (0xC100),SP. -/
theorem test_Ld26 :
    after (withCode { launched with sp := 0xFFF8, pc := 0xC000 }
      [0x08, 0x00, 0xC1])
      (fun t => (t.pc, t.byteAt 0xC100, t.byteAt 0xC101, t.stepCycles)) =
    some (0xC003, 0xF8, 0xFF, 20) := by decide

/-- Ld27: LD SP,HL. -/
theorem test_Ld27 :
    after (withCode { launched with
        regs := { launched.regs with h := 0xD0, l := 0x00 }
        sp := 0xFFFE
        pc := 0xC000 }
      [0xF9])
      (fun t => (t.sp, t.pc, t.stepCycles)) =
    some (0xD000, 0xC001, 8) := by decide

/-- Ld28: PUSH BC. -/
theorem test_Ld28 :
    after (withCode { launched with
        regs := { launched.regs with b := 0x12, c := 0x34 }
        sp := 0xFFFE
        pc := 0xC000 }
      [0xC5])
      (fun t => (t.sp, t.pc, t.byteAt 0xFFFD, t.byteAt 0xFFFC, t.stepCycles)) =
    some (0xFFFC, 0xC001, 0x12, 0x34, 16) := by decide

/-- Ld30: POP AF (low nibble of F forced to 0). -/
theorem test_Ld30 :
    after (withCode { launched with
        regs := { launched.regs with a := 0x00, f := 0x00 }
        sp := 0xFFFC
        pc := 0xC000
        hram := [(124, 0xFF), (125, 0x12)] }
      [0xF1])
      (fun t => (t.regs.a, t.regs.f, t.sp, t.pc, t.stepCycles)) =
    some (0x12, 0xF0, 0xFFFE, 0xC001, 12) := by decide

/-- Ld31: PUSH HL with SP=0x0001. -/
theorem test_Ld31 :
    after (withCode { launched with
        regs := { launched.regs with h := 0x0A, l := 0x0B }
        sp := 0x0001
        pc := 0xC000 }
      [0xE5])
      (fun t => (t.sp, t.pc, t.ieReg, t.mbc.ramEnable, t.stepCycles)) =
    some (0xFFFF, 0xC001, 0x0B, true, 16) := by decide

/-- A81: ADD A,B. -/
theorem test_A81 :
    after (withCode { launched with regs := { launched.regs with a := 0xFC, f := 0x00, b := 0x09 }, pc := 0xC000 }
      [0x80])
      (fun t => (t.regs.a, t.regs.f, t.pc, t.stepCycles)) =
    some (0x05, 0x30, 0xC001, 4) := by decide

/-- A83: ADD A,(HL). -/
theorem test_A83 :
    after (withCode { launched with
        regs := { launched.regs with a := 0x0F, f := 0x00, h := 0xC1, l := 0x00 }
        pc := 0xC000
        wram := [(256, 0x01)] }
      [0x86])
      (fun t => (t.regs.a, t.regs.f, t.pc, t.stepCycles)) =
    some (0x10, 0x20, 0xC001, 8) := by decide

/-- A85: ADC A,A with CY=1. -/
theorem test_A85 :
    after (withCode { launched with regs := { launched.regs with a := 0x80, f := 0x10 }, pc := 0xC000 }
      [0x8F])
      (fun t => (t.regs.a, t.pc, t.regs.f, t.stepCycles)) =
    some (0x01, 0xC001, 0x10, 4) := by decide

/-- A86: SUB A. -/
theorem test_A86 :
    after (withCode { launched with regs := { launched.regs with a := 0x3C, f := 0x00 }, pc := 0xC000 }
      [0x97])
      (fun t => (t.regs.a, t.regs.f, t.pc, t.stepCycles)) =
    some (0x00, 0xC0, 0xC001, 4) := by decide

/-- A87: SUB 0x01. -/
theorem test_A87 :
    after (withCode { launched with regs := { launched.regs with a := 0x10, f := 0x00 }, pc := 0xC000 }
      [0xD6, 0x01])
      (fun t => (t.regs.a, t.regs.f, t.pc, t.stepCycles)) =
    some (0x0F, 0x60, 0xC002, 8) := by decide

/-- A810: SBC A,0xFF with CY=1. -/
theorem test_A810 :
    after (withCode { launched with regs := { launched.regs with a := 0xFF, f := 0x10 }, pc := 0xC000 }
      [0xDE, 0xFF])
      (fun t => (t.regs.f, t.pc, t.stepCycles)) =
    some (0x70, 0xC002, 8) := by decide

/-- A811: AND 0x0F. -/
theorem test_A811 :
    after (withCode { launched with regs := { launched.regs with a := 0xF0, f := 0x10 }, pc := 0xC000 }
      [0xE6, 0x0F])
      (fun t => (t.regs.a, t.regs.f, t.pc, t.stepCycles)) =
    some (0x00, 0xA0, 0xC002, 8) := by decide

/-- A812: XOR A. -/
theorem test_A812 :
    after (withCode { launched with regs := { launched.regs with a := 0x5A, f := 0x70 }, pc := 0xC000 }
      [0xAF])
      (fun t => (t.regs.a, t.regs.f, t.pc, t.stepCycles)) =
    some (0x00, 0x80, 0xC001, 4) := by decide

/-- A813: OR (HL). -/
theorem test_A813 :
    after (withCode { launched with
        regs := { launched.regs with a := 0x00, f := 0x10, h := 0xC1, l := 0x00 }
        pc := 0xC000
        wram := [(256, 0x80)] }
      [0xB6])
      (fun t => (t.regs.a, t.regs.f, t.pc, t.stepCycles)) =
    some (0x80, 0x00, 0xC001, 8) := by decide

/-- A815: CP 0x40. -/
theorem test_A815 :
    after (withCode { launched with regs := { launched.regs with a := 0x3C, f := 0x00 }, pc := 0xC000 }
      [0xFE, 0x40])
      (fun t => (t.regs.f, t.pc, t.stepCycles)) =
    some (0x50, 0xC002, 8) := by decide

/-- A816: INC A at 0xFF. -/
theorem test_A816 :
    after (withCode { launched with regs := { launched.regs with a := 0xFF, f := 0x10 }, pc := 0xC000 }
      [0x3C])
      (fun t => (t.regs.a, t.regs.f, t.pc, t.stepCycles)) =
    some (0x00, 0xB0, 0xC001, 4) := by decide

/-- A818: INC (HL). -/
theorem test_A818 :
    after (withCode { launched with
        regs := { launched.regs with f := 0x00, h := 0xC1, l := 0x00 }
        pc := 0xC000
        wram := [(256, 0xFF)] }
      [0x34])
      (fun t => (t.regs.f, t.pc, t.byteAt 0xC100, t.stepCycles)) =
    some (0xA0, 0xC001, 0x00, 12) := by decide

/-- A819: DEC A. -/
theorem test_A819 :
    after (withCode { launched with regs := { launched.regs with a := 0x00, f := 0x10 }, pc := 0xC000 }
      [0x3D])
      (fun t => (t.regs.a, t.regs.f, t.pc, t.stepCycles)) =
    some (0xFF, 0x70, 0xC001, 4) := by decide

/-- A821: DEC (HL). -/
theorem test_A821 :
    after (withCode { launched with
        regs := { launched.regs with f := 0x00, h := 0xC1, l := 0x00 }
        pc := 0xC000
        wram := [(256, 0x10)] }
      [0x35])
      (fun t => (t.regs.f, t.pc, t.byteAt 0xC100, t.stepCycles)) =
    some (0x60, 0xC001, 0x0F, 12) := by decide

/-- A825: DAA on 0x9A, N=H=CY=0. -/
theorem test_A825 :
    after (withCode { launched with regs := { launched.regs with a := 0x9A, f := 0x00 }, pc := 0xC000 }
      [0x27])
      (fun t => (t.regs.a, t.regs.f, t.pc, t.stepCycles)) =
    some (0x00, 0x90, 0xC001, 4) := by decide

/-- A826: CPL. -/
theorem test_A826 :
    after (withCode { launched with regs := { launched.regs with a := 0x35, f := 0x90 }, pc := 0xC000 }
      [0x2F])
      (fun t => (t.regs.a, t.regs.f, t.pc, t.stepCycles)) =
    some (0xCA, 0xF0, 0xC001, 4) := by decide

/-- A827: SCF. -/
theorem test_A827 :
    after (withCode { launched with regs := { launched.regs with f := 0xE0 }, pc := 0xC000 }
      [0x37])
      (fun t => (t.regs.f, t.pc, t.stepCycles)) =
    some (0x90, 0xC001, 4) := by decide

/-- A828: CCF. -/
theorem test_A828 :
    after (withCode { launched with regs := { launched.regs with f := 0x70 }, pc := 0xC000 }
      [0x3F])
      (fun t => (t.regs.f, t.pc, t.stepCycles)) =
    some (0x00, 0xC001, 4) := by decide

/-- A161: INC BC. -/
theorem test_A161 :
    after (withCode { launched with regs := { launched.regs with f := 0x00, b := 0x00, c := 0xFF }, pc := 0xC000 }
      [0x03])
      (fun t => (t.regs.b, t.regs.c, t.pc, t.regs.f, t.stepCycles)) =
    some (0x01, 0x00, 0xC001, 0x00, 8) := by decide

/-- A162: INC SP at 0xFFFF. -/
theorem test_A162 :
    after (withCode { launched with sp := 0xFFFF, pc := 0xC000 }
      [0x33])
      (fun t => (t.sp, t.pc, t.regs.f, t.stepCycles)) =
    some (0x0000, 0xC001, 0xB0, 8) := by decide

/-- A163: DEC DE at 0x0000. -/
theorem test_A163 :
    after (withCode { launched with regs := { launched.regs with f := 0xF0, d := 0x00, e := 0x00 }, pc := 0xC000 }
      [0x1B])
      (fun t => (t.regs.d, t.regs.e, t.pc, t.regs.f, t.stepCycles)) =
    some (0xFF, 0xFF, 0xC001, 0xF0, 8) := by decide

/-- A164: ADD HL,BC. -/
theorem test_A164 :
    after (withCode { launched with
        regs := { launched.regs with f := 0x80, b := 0x00, c := 0x01, h := 0x0F, l := 0xFF }
        pc := 0xC000 }
      [0x09])
      (fun t => (t.regs.f, t.regs.h, t.regs.l, t.pc, t.stepCycles)) =
    some (0xA0, 0x10, 0x00, 0xC001, 8) := by decide

/-- A167: ADD SP,0x08. -/
theorem test_A167 :
    after (withCode { launched with regs := { launched.regs with f := 0xF0 }, sp := 0xFFF8, pc := 0xC000 }
      [0xE8, 0x08])
      (fun t => (t.regs.f, t.sp, t.pc, t.stepCycles)) =
    some (0x30, 0x0000, 0xC002, 16) := by decide

/-- A169: ADD SP,-1 at 0x00FF. -/
theorem test_A169 :
    after (withCode { launched with regs := { launched.regs with f := 0x00 }, sp := 0x00FF, pc := 0xC000 }
      [0xE8, 0xFF])
      (fun t => (t.regs.f, t.sp, t.pc, t.stepCycles)) =
    some (0x30, 0x00FE, 0xC002, 16) := by decide

/-- A1611: LD HL,SP-2 at 0x0001. -/
theorem test_A1611 :
    after (withCode { launched with
        regs := { launched.regs with f := 0x00, h := 0x00, l := 0x00 }
        sp := 0x0001
        pc := 0xC000 }
      [0xF8, 0xFE])
      (fun t => (t.regs.h, t.regs.l, t.pc, t.regs.f, t.stepCycles)) =
    some (0xFF, 0xFF, 0xC002, 0x00, 12) := by decide

/-- Rot2: RLCA on 0 (Z stays 0). -/
theorem test_Rot2 :
    after (withCode { launched with regs := { launched.regs with a := 0x00, f := 0x80 }, pc := 0xC000 }
      [0x07])
      (fun t => (t.regs.f, t.pc, t.stepCycles)) =
    some (0x00, 0xC001, 4) := by decide

/-- Rot3: RRCA. -/
theorem test_Rot3 :
    after (withCode { launched with regs := { launched.regs with a := 0x01, f := 0x00 }, pc := 0xC000 }
      [0x0F])
      (fun t => (t.regs.a, t.regs.f, t.pc, t.stepCycles)) =
    some (0x80, 0x10, 0xC001, 4) := by decide

/-- Rot4: RLA. -/
theorem test_Rot4 :
    after (withCode { launched with regs := { launched.regs with a := 0x95, f := 0x10 }, pc := 0xC000 }
      [0x17])
      (fun t => (t.regs.a, t.pc, t.regs.f, t.stepCycles)) =
    some (0x2B, 0xC001, 0x10, 4) := by decide

/-- Rot6: RRA. -/
theorem test_Rot6 :
    after (withCode { launched with regs := { launched.regs with a := 0x81, f := 0x00 }, pc := 0xC000 }
      [0x1F])
      (fun t => (t.regs.a, t.regs.f, t.pc, t.stepCycles)) =
    some (0x40, 0x10, 0xC001, 4) := by decide

/-- Rot8: RLC (HL) on 0. -/
theorem test_Rot8 :
    after (withCode { launched with regs := { launched.regs with f := 0x10, h := 0xC1, l := 0x00 }, pc := 0xC000 }
      [0xCB, 0x06])
      (fun t => (t.regs.f, t.pc, t.stepCycles)) =
    some (0x80, 0xC002, 16) := by decide

/-- Rot9: RRC C. -/
theorem test_Rot9 :
    after (withCode { launched with regs := { launched.regs with f := 0x00, c := 0x01 }, pc := 0xC000 }
      [0xCB, 0x09])
      (fun t => (t.regs.f, t.regs.c, t.pc, t.stepCycles)) =
    some (0x10, 0x80, 0xC002, 8) := by decide

/-- Rot10: RL D. -/
theorem test_Rot10 :
    after (withCode { launched with regs := { launched.regs with f := 0x00, d := 0x80 }, pc := 0xC000 }
      [0xCB, 0x12])
      (fun t => (t.regs.f, t.regs.d, t.pc, t.stepCycles)) =
    some (0x90, 0x00, 0xC002, 8) := by decide

/-- Rot11: RR E. -/
theorem test_Rot11 :
    after (withCode { launched with regs := { launched.regs with f := 0x10, e := 0x01 }, pc := 0xC000 }
      [0xCB, 0x1B])
      (fun t => (t.regs.e, t.pc, t.regs.f, t.stepCycles)) =
    some (0x80, 0xC002, 0x10, 8) := by decide

/-- Rot12: SLA H. -/
theorem test_Rot12 :
    after (withCode { launched with regs := { launched.regs with f := 0x00, h := 0x41 }, pc := 0xC000 }
      [0xCB, 0x24])
      (fun t => (t.regs.h, t.pc, t.regs.f, t.stepCycles)) =
    some (0x82, 0xC002, 0x00, 8) := by decide

/-- Rot14: SRA L. -/
theorem test_Rot14 :
    after (withCode { launched with regs := { launched.regs with f := 0x00, l := 0x8A }, pc := 0xC000 }
      [0xCB, 0x2D])
      (fun t => (t.regs.l, t.pc, t.regs.f, t.stepCycles)) =
    some (0xC5, 0xC002, 0x00, 8) := by decide

/-- Rot16: SWAP A. -/
theorem test_Rot16 :
    after (withCode { launched with regs := { launched.regs with a := 0xF1, f := 0x10 }, pc := 0xC000 }
      [0xCB, 0x37])
      (fun t => (t.regs.a, t.regs.f, t.pc, t.stepCycles)) =
    some (0x1F, 0x00, 0xC002, 8) := by decide

/-- Rot18: SRL A. -/
theorem test_Rot18 :
    after (withCode { launched with regs := { launched.regs with a := 0xFF, f := 0x00 }, pc := 0xC000 }
      [0xCB, 0x3F])
      (fun t => (t.regs.a, t.regs.f, t.pc, t.stepCycles)) =
    some (0x7F, 0x10, 0xC002, 8) := by decide

/-- Rot19: BIT 7,A. -/
theorem test_Rot19 :
    after (withCode { launched with regs := { launched.regs with a := 0x80, f := 0x10 }, pc := 0xC000 }
      [0xCB, 0x7F])
      (fun t => (t.regs.f, t.pc, t.stepCycles)) =
    some (0x30, 0xC002, 8) := by decide

/-- Rot21: BIT 3,(HL). -/
theorem test_Rot21 :
    after (withCode { launched with
        regs := { launched.regs with f := 0x50, h := 0xC1, l := 0x00 }
        pc := 0xC000
        wram := [(256, 0x08)] }
      [0xCB, 0x5E])
      (fun t => (t.regs.f, t.pc, t.stepCycles)) =
    some (0x30, 0xC002, 12) := by decide

/-- Rot22: RES 0,B. -/
theorem test_Rot22 :
    after (withCode { launched with regs := { launched.regs with f := 0xF0, b := 0xFF }, pc := 0xC000 }
      [0xCB, 0x80])
      (fun t => (t.regs.b, t.pc, t.regs.f, t.stepCycles)) =
    some (0xFE, 0xC002, 0xF0, 8) := by decide

/-- Rot24: SET 7,(HL). -/
theorem test_Rot24 :
    after (withCode { launched with regs := { launched.regs with f := 0x00, h := 0xC1, l := 0x00 }, pc := 0xC000 }
      [0xCB, 0xFE])
      (fun t => (t.pc, t.regs.f, t.byteAt 0xC100, t.stepCycles)) =
    some (0xC002, 0x00, 0x80, 16) := by decide

/-- Ctl1: JP 0x0150. -/
theorem test_Ctl1 :
    after (withCode { launched with pc := 0xC000 }
      [0xC3, 0x50, 0x01])
      (fun t => (t.pc, t.stepCycles)) =
    some (0x0150, 16) := by decide

/-- Ctl2: JP Z,0x0200 taken. -/
theorem test_Ctl2 :
    after (withCode { launched with regs := { launched.regs with f := 0x80 }, pc := 0xC000 }
      [0xCA, 0x00, 0x02])
      (fun t => (t.pc, t.stepCycles)) =
    some (0x0200, 16) := by decide

/-- Ctl3: JP Z,0x0200 not taken. -/
theorem test_Ctl3 :
    after (withCode { launched with regs := { launched.regs with f := 0x00 }, pc := 0xC000 }
      [0xCA, 0x00, 0x02])
      (fun t => (t.pc, t.stepCycles)) =
    some (0xC003, 12) := by decide

/-- Ctl4: JP HL. -/
theorem test_Ctl4 :
    after (withCode { launched with regs := { launched.regs with h := 0xC1, l := 0x23 }, pc := 0xC000 }
      [0xE9])
      (fun t => (t.pc, t.stepCycles)) =
    some (0xC123, 4) := by decide

/-- Ctl7: JR -128. -/
theorem test_Ctl7 :
    after (withCode { launched with pc := 0xC050 }
      [0x18, 0x80])
      (fun t => (t.pc, t.stepCycles)) =
    some (0xBFD2, 12) := by decide

/-- Ctl8: JR NZ,-4 taken. -/
theorem test_Ctl8 :
    after (withCode { launched with regs := { launched.regs with f := 0x00 }, pc := 0xC060 }
      [0x20, 0xFC])
      (fun t => (t.pc, t.stepCycles)) =
    some (0xC05E, 12) := by decide

/-- Ctl9: JR NZ,-4 not taken. -/
theorem test_Ctl9 :
    after (withCode { launched with regs := { launched.regs with f := 0x80 }, pc := 0xC060 }
      [0x20, 0xFC])
      (fun t => (t.pc, t.stepCycles)) =
    some (0xC062, 8) := by decide

/-- Ctl11: CALL 0x0200. -/
theorem test_Ctl11 :
    after (withCode { launched with sp := 0xFFFE, pc := 0xC150 }
      [0xCD, 0x00, 0x02])
      (fun t => (t.sp, t.pc, t.byteAt 0xFFFD, t.byteAt 0xFFFC, t.stepCycles)) =
    some (0xFFFC, 0x0200, 0xC1, 0x53, 24) := by decide

/-- Ctl12: CALL C,0x0200 not taken. -/
theorem test_Ctl12 :
    after (withCode { launched with regs := { launched.regs with f := 0x00 }, sp := 0xFFFE, pc := 0xC150 }
      [0xDC, 0x00, 0x02])
      (fun t => (t.pc, t.stepCycles)) =
    some (0xC153, 12) := by decide

/-- Ctl14: RET. -/
theorem test_Ctl14 :
    after (withCode { launched with sp := 0xFFFC, pc := 0xC000, hram := [(124, 0x53), (125, 0x01)] }
      [0xC9])
      (fun t => (t.sp, t.pc, t.stepCycles)) =
    some (0xFFFE, 0x0153, 16) := by decide

/-- Ctl15: RET NZ not taken. -/
theorem test_Ctl15 :
    after (withCode { launched with
        regs := { launched.regs with f := 0x80 }
        sp := 0xFFFC
        pc := 0xC000
        hram := [(124, 0x53), (125, 0x01)] }
      [0xC0])
      (fun t => (t.pc, t.stepCycles)) =
    some (0xC001, 8) := by decide

/-- Ctl16: RET Z taken. -/
theorem test_Ctl16 :
    after (withCode { launched with
        regs := { launched.regs with f := 0x80 }
        sp := 0xFFFC
        pc := 0xC000
        hram := [(124, 0x53), (125, 0x01)] }
      [0xC8])
      (fun t => (t.sp, t.pc, t.stepCycles)) =
    some (0xFFFE, 0x0153, 20) := by decide

/-- Ctl18: RST 38H. -/
theorem test_Ctl18 :
    after (withCode { launched with sp := 0xFFFE, pc := 0xC200 }
      [0xFF])
      (fun t => (t.sp, t.pc, t.byteAt 0xFFFD, t.byteAt 0xFFFC, t.stepCycles)) =
    some (0xFFFC, 0x0038, 0xC2, 0x01, 16) := by decide

/-- Ctl19: RETI with IME=1. -/
theorem test_Ctl19 :
    after (withCode { launched with sp := 0xFFFC, pc := 0xC000, ime := true, hram := [(124, 0x53), (125, 0x01)] }
      [0xD9])
      (fun t => (t.sp, t.pc, t.ime, t.stepCycles)) =
    some (0xFFFE, 0x0153, false, 16) := by decide

/-- Sys1: NOP. -/
theorem test_Sys1 :
    after (withCode { launched with pc := 0xC000 }
      [0x00])
      (fun t => (t.pc, t.stepCycles)) =
    some (0xC001, 4) := by decide

/-- Sys2: STOP. -/
theorem test_Sys2 : faultOf (withCode { launched with pc := 0xC150 }
      [0x10, 0x00]) =
    some (.unmodelledStop 0xC150) := by decide

/-- Sys3: HALT (IME=0, nothing pending). -/
theorem test_Sys3 :
    after (withCode { launched with pc := 0xC000 }
      [0x76])
      (fun t => (t.pc, t.halted, t.stepCycles)) =
    some (0xC001, true, 4) := by decide

/-- Sys5: DI with IME=1 and VBlank pending. -/
theorem test_Sys5 :
    after (withCode { launched with pc := 0xC000, ifReg := 0x01, ieReg := 0x01, ime := true }
      [0xF3])
      (fun t => (t.pc, t.ime, t.stepCycles)) =
    some (0xC001, false, 4) := by decide

/-- Sys6: EI, EI_DELAY=0, VBlank pending. -/
theorem test_Sys6 :
    after (withCode { launched with sp := 0xFFFE, pc := 0xC150, ifReg := 0x01, ieReg := 0x01 }
      [0xFB])
      (fun t => ((t.sp, t.pc, t.ifReg, t.byteAt 0xFFFD), t.byteAt 0xFFFC, t.ime, t.stepCycles)) =
    some ((0xFFFC, 0x0040, 0x00, 0xC1), 0x51, false, 24) := by decide

/-- Sys7: EI, EI_DELAY=1, VBlank pending (1 step). -/
theorem test_Sys7 :
    after (withCode { launched with
        sp := 0xFFFE
        pc := 0xC150
        ifReg := 0x01
        ieReg := 0x01
        params := { launched.params with eiDelay := true } }
      [0xFB, 0x00])
      (fun t => (t.pc, t.eiPending, t.stepCycles)) =
    some (0xC151, true, 4) := by decide

/-- Sys10: undefined 0xD3. -/
theorem test_Sys10 : faultOf (withCode { launched with pc := 0xC150 }
      [0xD3]) =
    some (.undefinedOpcode 0xD3) := by decide

/-- Sys12: decode past 0xFFFF: LD BC,nn at 0xFFFE (third byte would be 0x10000). -/
theorem test_Sys12 : faultOf ({ launched with pc := 0xFFFE, hram := [(0x7E, 0x01)] }) =
    some (.decodePastEnd 0xFFFE) := by decide

/-- Int1: VBlank dispatch after NOP. -/
theorem test_Int1 :
    after (withCode { launched with sp := 0xFFFE, pc := 0xC150, ifReg := 0x01, ieReg := 0x01, ime := true }
      [0x00])
      (fun t => ((t.sp, t.pc, t.ifReg, t.byteAt 0xFFFD), t.byteAt 0xFFFC, t.ime, t.stepCycles)) =
    some ((0xFFFC, 0x0040, 0x00, 0xC1), 0x51, false, 24) := by decide

/-- Int2: two pending (bits 1 and 2): only bit 1. -/
theorem test_Int2 :
    after (withCode { launched with sp := 0xFFFE, pc := 0xC150, ieReg := 0x1F, ifReg := 0x06, ime := true }
      [0x00])
      (fun t => (t.sp, t.pc, t.ifReg, t.ime, t.stepCycles)) =
    some (0xFFFC, 0x0048, 0x04, false, 24) := by decide

/-- Int4: bits 7..5 set in IF and IE: no dispatch. -/
theorem test_Int4 :
    after (withCode { launched with pc := 0xC150, ifReg := 0xE0, ieReg := 0xE0, ime := true }
      [0x00])
      (fun t => (t.pc, t.stepCycles)) =
    some (0xC151, 4) := by decide

/-- Int5: halted core, Joypad pending. -/
theorem test_Int5 :
    after ({ launched with
        sp := 0xFFFE
        pc := 0xC201
        ifReg := 0x10
        ieReg := 0x10
        ime := true
        halted := true })
      (fun t => ((t.sp, t.pc, t.ifReg, t.byteAt 0xFFFD), t.byteAt 0xFFFC, t.ime, t.halted, t.stepCycles)) =
    some ((0xFFFC, 0x0060, 0x00, 0xC2), 0x01, false, false, 24) := by decide

/-- Int6: halted core, IME=0, VBlank pending: stays halted. -/
theorem test_Int6 :
    after ({ launched with pc := 0xC201, ifReg := 0x01, ieReg := 0x01, halted := true })
      (fun t => (t.halted, t.stepCycles)) =
    some (true, 4) := by decide

/-- Int7: dispatch push with SP=0x0001 (push writes 0x0000 and IE). -/
theorem test_Int7 :
    after (withCode { launched with sp := 0x0001, pc := 0xC150, ifReg := 0x01, ieReg := 0x01, ime := true }
      [0x00])
      (fun t => (t.sp, t.pc, t.ifReg, t.ieReg, t.ime, t.stepCycles)) =
    some (0xFFFF, 0x0040, 0x00, 0x51, false, 24) := by decide

/-- Mem1: read 0xFF04 (timer address, unmapped). -/
theorem test_Mem1 :
    after (withCode { launched with regs := { launched.regs with a := 0x77 }, pc := 0xC000 }
      [0xF0, 0x04])
      (fun t => (t.regs.a, t.pc, t.stepCycles)) =
    some (0x00, 0xC002, 12) := by decide

/-- Mem3: write 0xFF7F. -/
theorem test_Mem3 : faultOf (withCode { launched with regs := { launched.regs with a := 0x01 }, pc := 0xC000 }
      [0xEA, 0x7F, 0xFF]) =
    some (.unmappedAddress 0xFF7F) := by decide

/-- Mem5: write HRAM 0xFFFE. -/
theorem test_Mem5 :
    after (withCode { launched with regs := { launched.regs with a := 0x3C }, pc := 0xC000 }
      [0xEA, 0xFE, 0xFF])
      (fun t => (t.pc, t.byteAt 0xFFFE, t.stepCycles)) =
    some (0xC003, 0x3C, 16) := by decide

set_option maxRecDepth 8000 in
/-- Mem6: DMA from 0xC000 (first and last byte). -/
theorem test_Mem6 :
    after (withCode { launched with
        regs := { launched.regs with a := 0xC0 }
        pc := 0xC100
        wram := [(0, 0x11), (159, 0x22)] }
      [0xE0, 0x46])
      (fun t => (t.pc, t.byteAt 0xFE00, t.byteAt 0xFE9F, t.stepCycles)) =
    some (0xC102, 0x11, 0x22, 12) := by decide

/-- Mem7: DMA from 0xFF00 (reaches 0xFF4C). -/
theorem test_Mem7 : faultOf (withCode { launched with regs := { launched.regs with a := 0xFF }, pc := 0xC000 }
      [0xE0, 0x46]) =
    some (.unmappedAddress 0xFF4C) := by decide

/-! ## Witnesses: states and operands that meet the hypotheses of each statement -/

theorem ok_of {α : Type} {r : Except Fault α} (h : r.isOk = true) : ∃ t, r = .ok t := by
  cases r with
  | ok t => exact ⟨t, rfl⟩
  | error e => cases h

theorem error_of {α : Type} {r : Except Fault α} (h : r.isOk = false) : ∃ e, r = .error e := by
  cases r with
  | ok t => cases h
  | error e => exact ⟨e, rfl⟩

theorem ok_then {r : Except Fault State} {f : State → Except Fault State} (h : (r.bind f).isOk = true) :
    ∃ t u, r = .ok t ∧ f t = .ok u := by
  cases r with
  | ok t => exact ⟨t, (ok_of h).choose, rfl, (ok_of h).choose_spec⟩
  | error e => cases h

theorem ok_then_error {r : Except Fault State} {f : State → Except Fault State} {e : Fault} (h : r.isOk = true)
    (hf : r.bind f = .error e) : ∃ t, r = .ok t ∧ f t = .error e := by
  cases r with
  | ok t => exact ⟨t, rfl, hf⟩
  | error e => cases h

/-- The outcome is a next state. -/
def isNext (o : Out) : Bool :=
  match o with
  | .next _ => true
  | _ => false

theorem next_of {o : Out} (h : isNext o = true) : ∃ t, o = .next t := by
  cases o with
  | next t => exact ⟨t, rfl⟩
  | fault e => cases h
  | refused e => cases h

/-- Every pointer register points into work RAM, high RAM or the stack; all four flags are set. -/
def ramState : State :=
  { launched with
    regs := { a := 0x42, f := 0xF0, b := 0xC1, c := 0x80, d := 0xC2, e := 0x00, h := 0xC1, l := 0x00 }
    sp := 0xD000
    pc := 0xC000
    wram := [(0x100, 0x77)] }

/-- Every pointer register points into `0xFF4C-0xFF7F`; all four flags are clear. -/
def holeState : State :=
  { launched with
    regs := { a := 0x42, f := 0x00, b := 0xFF, c := 0x50, d := 0xFF, e := 0x50, h := 0xFF, l := 0x50 }
    sp := 0xFF50
    pc := 0xC000 }

/-- SP where the first byte of a push lands in RAM and the second in `0xFF4C-0xFF7F`, and a pop the other way round. -/
def edgeState : State := { launched with sp := 0xFF81, pc := 0xC000 }

theorem test_witness_LoadsFromMemory :
    busRead ramState (ofBytes ramState.regs.h ramState.regs.l) = .ok 0x77 ∧
    busRead ramState (ofBytes ramState.regs.b ramState.regs.c) = .ok 0x00 ∧
    busRead ramState (ofBytes ramState.regs.d ramState.regs.e) = .ok 0x00 ∧
    busRead ramState (ofBytes 0xC1 0x00) = .ok 0x77 ∧
    busRead ramState (0xFF00 + (0x80 : Byte).setWidth 16) = .ok 0x00 ∧
    busRead ramState (0xFF00 + ramState.regs.c.setWidth 16) = .ok 0x00 ∧
    busRead holeState (ofBytes holeState.regs.h holeState.regs.l) = .error (.unmappedAddress 0xFF50) ∧
    busRead holeState (ofBytes holeState.regs.b holeState.regs.c) = .error (.unmappedAddress 0xFF50) ∧
    busRead holeState (ofBytes holeState.regs.d holeState.regs.e) = .error (.unmappedAddress 0xFF50) ∧
    busRead holeState (ofBytes 0xFF 0x7F) = .error (.unmappedAddress 0xFF7F) ∧
    busRead holeState (0xFF00 + (0x4C : Byte).setWidth 16) = .error (.unmappedAddress 0xFF4C) ∧
    busRead holeState (0xFF00 + holeState.regs.c.setWidth 16) = .error (.unmappedAddress 0xFF50) :=
  ⟨by decide, by decide, by decide, by decide, by decide, by decide, by decide, by decide, by decide, by decide, by decide, by decide⟩

theorem test_witness_StoresToMemory :
    (∃ t, busWrite ramState (ofBytes ramState.regs.h ramState.regs.l) 0x42 = .ok t) ∧
    (∃ t, busWrite ramState (ofBytes ramState.regs.b ramState.regs.c) 0x42 = .ok t) ∧
    (∃ t, busWrite ramState (ofBytes ramState.regs.d ramState.regs.e) 0x42 = .ok t) ∧
    (∃ t, busWrite ramState (ofBytes 0xC1 0x00) 0x42 = .ok t) ∧
    (∃ t, busWrite ramState (0xFF00 + (0x80 : Byte).setWidth 16) 0x42 = .ok t) ∧
    (∃ t, busWrite ramState (0xFF00 + ramState.regs.c.setWidth 16) 0x42 = .ok t) ∧
    busWrite holeState (ofBytes holeState.regs.h holeState.regs.l) 0x42 = .error (.unmappedAddress 0xFF50) ∧
    busWrite holeState (ofBytes holeState.regs.b holeState.regs.c) 0x42 = .error (.unmappedAddress 0xFF50) ∧
    busWrite holeState (ofBytes holeState.regs.d holeState.regs.e) 0x42 = .error (.unmappedAddress 0xFF50) ∧
    busWrite holeState (ofBytes 0xFF 0x7F) 0x42 = .error (.unmappedAddress 0xFF7F) ∧
    busWrite holeState (0xFF00 + (0x4C : Byte).setWidth 16) 0x42 = .error (.unmappedAddress 0xFF4C) ∧
    busWrite holeState (0xFF00 + holeState.regs.c.setWidth 16) 0x42 = .error (.unmappedAddress 0xFF50) :=
  ⟨ok_of (by decide), ok_of (by decide), ok_of (by decide), ok_of (by decide), ok_of (by decide), ok_of (by decide),
    by decide, by decide, by decide, by decide, by decide, by decide⟩

theorem test_witness_SteppedLoadsAndStoreOfSP :
    busRead ramState (ofBytes ramState.regs.h ramState.regs.l) = .ok 0x77 ∧
    busRead holeState (ofBytes holeState.regs.h holeState.regs.l) = .error (.unmappedAddress 0xFF50) ∧
    (∃ t u, busWrite ramState (ofBytes 0xC1 0xFF) (loByte ramState.sp) = .ok t ∧
      busWrite t (ofBytes 0xC1 0xFF + 1) (hiByte ramState.sp) = .ok u) ∧
    busWrite ramState (ofBytes 0xFF 0x7F) (loByte ramState.sp) = .error (.unmappedAddress 0xFF7F) ∧
    (∃ t, busWrite ramState (ofBytes 0xFF 0x4B) (loByte ramState.sp) = .ok t ∧
      busWrite t (ofBytes 0xFF 0x4B + 1) (hiByte ramState.sp) = .error (.unmappedAddress 0xFF4C)) :=
  ⟨by decide, by decide, ok_then (f := fun t => busWrite t _ _) (by decide), by decide,
    ok_then_error (f := fun t => busWrite t _ _) (by decide) (by decide)⟩

theorem test_witness_PushAndPopOfAWord :
    (∃ t u, busWrite { ramState with sp := ramState.sp - 1 } (ramState.sp - 1) (hiByte 0x1234) = .ok t ∧
      busWrite { t with sp := t.sp - 1 } (t.sp - 1) (loByte 0x1234) = .ok u) ∧
    busWrite { holeState with sp := holeState.sp - 1 } (holeState.sp - 1) (hiByte 0x1234) =
      .error (.unmappedAddress 0xFF4F) ∧
    (∃ t, busWrite { edgeState with sp := edgeState.sp - 1 } (edgeState.sp - 1) (hiByte 0x1234) = .ok t ∧
      busWrite { t with sp := t.sp - 1 } (t.sp - 1) (loByte 0x1234) = .error (.unmappedAddress 0xFF7F)) ∧
    (busRead ramState ramState.sp = .ok 0x00 ∧ busRead ramState (ramState.sp + 1) = .ok 0x00) ∧
    busRead holeState holeState.sp = .error (.unmappedAddress 0xFF50) ∧
    (busRead { launched with sp := 0xFF4B } 0xFF4B = .ok 0x00 ∧
      busRead { launched with sp := 0xFF4B } (0xFF4B + 1) = .error (.unmappedAddress 0xFF4C)) :=
  ⟨ok_then (f := fun t => busWrite { t with sp := t.sp - 1 } (t.sp - 1) _) (by decide), by decide,
    ok_then_error (f := fun t => busWrite { t with sp := t.sp - 1 } (t.sp - 1) _) (by decide) (by decide),
    ⟨by decide, by decide⟩, by decide, by decide, by decide⟩

theorem test_witness_PushesAndCalls :
    (∃ t, push16 ramState (ramState.getRp2 .bc) = .ok t) ∧ (∃ t, push16 ramState ramState.pc = .ok t) ∧
    ramState.cond .z = true ∧ ramState.cond .nc = false ∧ holeState.cond .nz = true ∧ holeState.cond .c = false ∧
    (∃ e, push16 holeState (holeState.getRp2 .bc) = .error e) ∧ (∃ e, push16 holeState holeState.pc = .error e) :=
  ⟨ok_of (by decide), ok_of (by decide), rfl, rfl, rfl, rfl, error_of (by decide), error_of (by decide)⟩

theorem test_witness_PopOfAPair :
    (busRead ramState ramState.sp = .ok 0x00 ∧ busRead ramState (ramState.sp + 1) = .ok 0x00) ∧
    busRead holeState holeState.sp = .error (.unmappedAddress 0xFF50) ∧
    (busRead { launched with sp := 0xFF4B } 0xFF4B = .ok 0x00 ∧
      busRead { launched with sp := 0xFF4B } (0xFF4B + 1) = .error (.unmappedAddress 0xFF4C)) :=
  ⟨⟨by decide, by decide⟩, by decide, by decide, by decide⟩

theorem test_witness_Returns :
    (∃ p, pop16 ramState = .ok p) ∧ (∃ e, pop16 holeState = .error e) ∧
    ramState.cond .z = true ∧ ramState.cond .c = true ∧ holeState.cond .nz = true ∧ holeState.cond .c = false :=
  ⟨ok_of (by decide), error_of (by decide), rfl, rfl, rfl, rfl⟩

theorem test_witness_PushThenPopRestores :
    ramState.FlagsClean ∧ ramState.StoresAt (ramState.sp - 1) ∧ ramState.StoresAt (ramState.sp - 2) :=
  ⟨by decide, by decide, by decide⟩

theorem test_witness_AluOperandForms :
    busRead ramState (ofBytes ramState.regs.h ramState.regs.l) = .ok 0x77 ∧
    busRead holeState (ofBytes holeState.regs.h holeState.regs.l) = .error (.unmappedAddress 0xFF50) :=
  ⟨by decide, by decide⟩

theorem test_witness_AdditionToA :
    ramState.regs.get .b = 0xC1 ∧ busRead ramState (ofBytes ramState.regs.h ramState.regs.l) = .ok 0x77 :=
  ⟨by decide, by decide⟩

theorem test_witness_SubtractionFromA :
    ramState.regs.get .c = 0x80 ∧ busRead ramState (ofBytes ramState.regs.h ramState.regs.l) = .ok 0x77 :=
  ⟨by decide, by decide⟩

theorem test_witness_LogicOnA :
    ramState.regs.get .a = 0x42 ∧ busRead ramState (ofBytes ramState.regs.h ramState.regs.l) = .ok 0x77 :=
  ⟨by decide, by decide⟩

/-- HL at the DMA trigger, which reads `v`; external RAM is enabled and absent, so that a DMA from the pages `0xA0` to
`0xBF` is fatal. -/
def triggerState (v : Byte) : State :=
  { launched with
    regs := { launched.regs with h := 0xFF, l := 0x46 }
    mbc := { launched.mbc with ramEnable := true }
    periph := .reference [(0xFF46, v)] }

/-- For IncrementOfAByte, DecrementOfAByte, the two rotate statements and BitTestResetAndSet: both accesses at HL
succeed; the read is fatal. -/
theorem test_witness_RewritesByte :
    busRead ramState (ofBytes ramState.regs.h ramState.regs.l) = .ok 0x77 ∧
    (∃ t, busWrite ramState (ofBytes ramState.regs.h ramState.regs.l) (0x77 + 1) = .ok t) ∧
    (∃ t, busWrite ramState (ofBytes ramState.regs.h ramState.regs.l) (0x77 - 1) = .ok t) ∧
    (∃ t, busWrite ramState (ofBytes ramState.regs.h ramState.regs.l) (0x77 &&& ~~~(1#8 <<< 0)) = .ok t) ∧
    (∃ t, busWrite ramState (ofBytes ramState.regs.h ramState.regs.l) (0x77 ||| (1#8 <<< 7)) = .ok t) ∧
    (∃ t, busWrite ramState (ofBytes ramState.regs.h ramState.regs.l)
      (BitVec.ofNat 8 (rotated .rlc 0x77 1)) = .ok t) ∧
    busRead holeState (ofBytes holeState.regs.h holeState.regs.l) = .error (.unmappedAddress 0xFF50) :=
  ⟨by decide, ok_of (by decide), ok_of (by decide), ok_of (by decide), ok_of (by decide), ok_of (by decide),
    by decide⟩

/-- For the same statements: the read succeeds and the write is fatal, because it starts a DMA from a fatal page. SRL
never meets this case: its result names a page below `0x80`. -/
theorem test_witness_RewritesByte_write :
    busRead (triggerState 0xA1) (ofBytes 0xFF 0x46) = .ok 0xA1 ∧
    busRead (triggerState 0x5A) (ofBytes 0xFF 0x46) = .ok 0x5A ∧
    (∃ e, busWrite (triggerState 0xA1) (ofBytes 0xFF 0x46) (0xA1 + 1) = .error e) ∧
    (∃ e, busWrite (triggerState 0xA1) (ofBytes 0xFF 0x46) (0xA1 - 1) = .error e) ∧
    (∃ e, busWrite (triggerState 0xA1) (ofBytes 0xFF 0x46) (0xA1 &&& ~~~(1#8 <<< 0)) = .error e) ∧
    (∃ e, busWrite (triggerState 0xA1) (ofBytes 0xFF 0x46) (0xA1 ||| (1#8 <<< 1)) = .error e) ∧
    (∃ e, busWrite (triggerState 0x5A) (ofBytes 0xFF 0x46) (BitVec.ofNat 8 (rotated .rlc 0x5A 1)) = .error e) ∧
    (∃ e, busWrite (triggerState 0x5A) (ofBytes 0xFF 0x46) (BitVec.ofNat 8 (rotated .swap 0x5A 1)) = .error e) :=
  ⟨by decide, by decide, error_of (by decide), error_of (by decide), error_of (by decide), error_of (by decide),
    error_of (by decide), error_of (by decide)⟩

theorem test_witness_DecimalAdjust :
    getFlag holeState.regs.f .n = false ∧ getFlag ramState.regs.f .n = true := ⟨rfl, rfl⟩

theorem test_witness_DecimalAdjustGivesDecimalArithmetic :
    45 < 100 ∧ 38 < 100 ∧ ({ ramState with regs := { ramState.regs with a := 0x45 } } : State).regs.a = bcd 45 := by
  decide

theorem test_witness_RotatesAndShiftsOfThePrefixPage : RotOp.swap ≠ RotOp.rlc := by decide

theorem test_witness_PrefixSelectsThePage : decode [0xCB, 0x37] = .ok .swapA 2 8 := rfl

theorem test_witness_NopAndDisableInterrupts :
    launched.params.eiDelay = false ∧
    ({ launched with params := { launched.params with eiDelay := true } } : State).params.eiDelay = true := ⟨rfl, rfl⟩

theorem test_witness_HaltEnableInterruptsAndStop :
    ({ launched with params := { launched.params with eiDelay := true }, eiPending := true } : State).params.eiDelay =
      true ∧
    ({ launched with params := { launched.params with eiDelay := true }, eiPending := true } : State).eiPending =
      true := ⟨rfl, rfl⟩

theorem test_witness_UndefinedOpcodesAreFatal :
    Instr.undefD3.undefinedByte = some 0xD3 ∧ Instr.undefFD.undefinedByte = some 0xFD ∧
    ({ launched with pc := 0xC000, wram := [(0, 0xD3)] } : State).halted = false ∧
    busRead { launched with pc := 0xC000, wram := [(0, 0xD3)] } 0xC000 = .ok 0xD3 :=
  ⟨rfl, rfl, rfl, by decide⟩

/-- The ends of each range, and what lies next to them. -/
theorem test_witness_UnmappedAddressesAndRam :
    route 0xFE9F = .oam ∧ route 0xFEA0 = .unmapped ∧ route 0xFF0E = .unmapped ∧ route 0xFF0F = .intFlag ∧
    route 0xFF26 = .audio ∧ route 0xFF27 = .unmapped ∧ route 0xFF2F = .unmapped ∧ route 0xFF30 = .audio ∧
    route 0xBFFF = .extRam 0x1FFF ∧ route 0xC000 = .wram 0 ∧ route 0xDFFF = .wram 0x1FFF ∧
    route 0xFF7F = .hole ∧ route 0xFF80 = .hram 0 ∧ route 0xFFFE = .hram 0x7E ∧ route 0xFFFF = .intEnable := by decide

/-- The ends of each range; `0xFF46` is the one display register that a write treats apart. -/
theorem test_witness_PeripheralAddresses :
    route 0x7FFF = .romSwitch 0x3FFF ∧ route 0x8000 = .vram ∧ route 0x9FFF = .vram ∧ route 0xA000 = .extRam 0 ∧
    route 0xFDFF = .wram 0x1DFF ∧ route 0xFE00 = .oam ∧ route 0xFE9F = .oam ∧ route 0xFF10 = .audio ∧
    route 0xFF26 = .audio ∧ route 0xFF30 = .audio ∧ route 0xFF3F = .audio ∧ route 0xFF40 = .display ∧
    route 0xFF45 = .display ∧ route 0xFF46 = .dmaTrigger ∧ route 0xFF47 = .display ∧ route 0xFF4B = .display ∧
    route 0xFF4C = .hole := by decide

theorem test_witness_EchoAndInterruptRegisters :
    route 0xE000 = .wram 0 ∧ route 0xFDFF = .wram 0x1DFF ∧ route 0xDFFF = .wram 0x1FFF := by decide

/-- The ends of the four register ranges, and both values of the parameter. -/
theorem test_witness_BankRegisterWrites :
    (launched.mbcWrite 0x0000 0x1A).mbc.ramEnable = true ∧ (launched.mbcWrite 0x1FFF 0xFA).mbc.ramEnable = true ∧
    (launched.mbcWrite 0x2000 0x25).mbc.bankLower = 5 ∧ (launched.mbcWrite 0x3FFF 0xFF).mbc.bankLower = 31 ∧
    (launched.mbcWrite 0x4000 0x07).mbc.bankUpper = 3 ∧ (launched.mbcWrite 0x5FFF 0x01).mbc.bankUpper = 1 ∧
    (launched.mbcWrite 0x6000 0x01).mbc.mode = true ∧ (launched.mbcWrite 0x7FFF 0x02).mbc.mode = false ∧
    launched.params.mbc1ModeWrite = .bit0 ∧
    ({ launched with params := { launched.params with mbc1ModeWrite := .toggle } } : State).params.mbc1ModeWrite =
      .toggle := by decide

/-- The ends of the two windows, and a state that meets the three conditions of the last clause. -/
theorem test_witness_RomReadsGoThroughTheBank :
    route 0x0000 = .romFixed 0 ∧ route 0x3FFF = .romFixed 0x3FFF ∧ route 0x4000 = .romSwitch 0 ∧
    route 0x7FFF = .romSwitch 0x3FFF ∧
    6 ≤ ({ launched with romSizeCode := 6 } : State).romSizeCode.val ∧ launched.mbc.mode = false ∧
    launched.mbc.bankLower = 0 := by decide

/-- Disabled, absent, the last byte of 2 KiB, and the byte after it. -/
theorem test_witness_ExternalRamAccess :
    launched.mbc.ramEnable = false ∧
    busRead { launched with mbc := { launched.mbc with ramEnable := true } } 0xA000 =
      .error (.extramOutOfRange 0xA000) ∧
    busRead { launched with mbc := { launched.mbc with ramEnable := true }, ramSizeCode := 1 } 0xA7FF = .ok 0x00 ∧
    busRead { launched with mbc := { launched.mbc with ramEnable := true }, ramSizeCode := 1 } 0xA800 =
      .error (.extramOutOfRange 0xA800) ∧
    busRead { launched with mbc := { launched.mbc with ramEnable := true }, ramSizeCode := 2 } 0xBFFF = .ok 0x00 :=
  ⟨rfl, by decide, by decide, by decide, by decide⟩

/-- A page of work RAM for both peripherals, the first index and the last. -/
theorem test_witness_DmaCopiesAPageToOam :
    (∀ i, i < 0xA0 → launched.Accessible (ofBytes 0xC0 0 + BitVec.ofNat 16 i)) ∧ launched.periph = .reference [] ∧
    (∀ i, i < 0xA0 → State.reset.Accessible (ofBytes 0xC0 0 + BitVec.ofNat 16 i)) ∧
    State.reset.periph = .free [] ∧ (∀ i, i < 0xA0 → ¬ periphAddress (ofBytes 0xC0 0 + BitVec.ofNat 16 i)) := by
  have h (i : Nat) (hi : i < 0xA0) : (ofBytes 0xC0 0 + BitVec.ofNat 16 i).toNat = 0xC000 + i := by
    have : ofBytes 0xC0 0 = 0xC000#16 := rfl
    rw [this]
    bv_omega
  refine ⟨fun i hi => ?_, rfl, fun i hi => ?_, rfl, fun i hi => ?_⟩ <;>
    simp only [State.Accessible, periphAddress, h i hi] <;> omega

/-- The addresses on both sides of the fatal range, and enabled RAM that is absent; DMA sources whose first fatal byte
is inside the page, and at its start. -/
theorem test_witness_BusAccessSucceeds :
    launched.Accessible 0xFF4B ∧ ¬ launched.Accessible 0xFF4C ∧ ¬ launched.Accessible 0xFF7F ∧
    launched.Accessible 0xFF80 ∧
    ¬ ({ launched with mbc := { launched.mbc with ramEnable := true } } : State).Accessible 0xA000 ∧
    launched.Writable 0xC000 0x00 ∧
    (∀ j, j < 0x4C → launched.Accessible (ofBytes 0xFF 0 + BitVec.ofNat 16 j)) ∧
    ¬ launched.Accessible (ofBytes 0xFF 0 + BitVec.ofNat 16 0x4C) ∧
    ¬ ({ launched with mbc := { launched.mbc with ramEnable := true } } : State).Accessible
      (ofBytes 0xA0 0 + BitVec.ofNat 16 0) := by
  refine ⟨by decide, by decide, by decide, by decide, by decide, ⟨by decide, fun h => absurd h (by decide)⟩,
    fun j hj => ⟨?_, fun _ _ e => absurd e (by decide)⟩, by decide, by decide⟩
  have h : (ofBytes 0xFF 0 + BitVec.ofNat 16 j).toNat = 0xFF00 + j := by
    have : ofBytes 0xFF 0 = 0xFF00#16 := rfl
    rw [this]
    bv_omega
  rw [h]
  omega

/-- R64 and R90: a write into the hole, a DMA from page `0xFF`, and one from external RAM that is absent. -/
theorem test_write_faults :
    busWrite launched 0xFF7F 0x00 = .error (.unmappedAddress 0xFF7F) ∧
    busWrite launched 0xFF46 0xFF = .error (.unmappedAddress 0xFF4C) ∧
    busWrite { launched with mbc := { launched.mbc with ramEnable := true } } 0xFF46 0xA1 =
      .error (.extramOutOfRange 0xA100) := by decide

/-- An address of each clause of `canChange` with one it cannot change; an address of each clause of `StoresAt`. -/
theorem test_witness_WritesChangeOnlyTheirBytes :
    (∃ t, busWrite launched 0x7FFF 0x01 = .ok t) ∧ ¬ canChange 0x7FFF 0x3FFF ∧
    (∃ t, busWrite launched 0x8000 0x01 = .ok t) ∧ ¬ canChange 0x8000 0xC000 ∧
    (∃ t, busWrite launched 0xFEA0 0x01 = .ok t) ∧ ¬ canChange 0xFEA0 0xFEA0 ∧
    (∃ t, busWrite launched 0xDDFF 0x01 = .ok t) ∧ ¬ canChange 0xDDFF 0xFDFE ∧ canChange 0xDDFF 0xFDFF ∧
    launched.StoresAt 0xC000 ∧ launched.StoresAt 0xFDFF ∧ launched.StoresAt 0xFF0F ∧ launched.StoresAt 0xFF80 ∧
    launched.StoresAt 0xFFFF ∧
    ({ launched with mbc := { launched.mbc with ramEnable := true }, ramSizeCode := 1 } : State).StoresAt 0xA7FF :=
  ⟨ok_of (by decide), by decide, ok_of (by decide), by decide, ok_of (by decide), by decide, ok_of (by decide),
    by decide, by decide, by decide, by decide, by decide, by decide, by decide, by decide⟩

theorem test_witness_CanonicalMemoryIsUnique :
    Memory.wf [(0, 0x11), (159, 0x22)] ∧ Memory.wf ([(159, 0x22)] |>.insert (0, 0x11)) := by decide

theorem test_witness_InstructionsStoreWhatTheyShould :
    (∃ t, exec .pushBC ramState = .next t) ∧ ramState.stores .pushBC = [(0xCFFF, 0xC1), (0xCFFE, 0x80)] ∧
    (∃ t, exec .incMHL ramState = .next t) ∧ ramState.stores .incMHL = [(0xC100, 0x78)] ∧
    (∃ t, exec .addAB ramState = .next t) ∧ ramState.stores .addAB = [] :=
  ⟨next_of (by decide), by decide, next_of (by decide), by decide, next_of (by decide), rfl⟩

theorem test_witness_InstructionsChangeOnlyStoredBytes :
    (∃ t, exec .pushBC ramState = .next t) ∧
    ¬ canChange 0xCFFF 0xD000 ∧ ¬ canChange 0xCFFE 0xD000 :=
  ⟨next_of (by decide), by decide, by decide⟩

theorem test_witness_EveryInstructionCompletes :
    Instr.retZ.undefinedByte = none ∧ (∀ a ∈ ramState.loads .retZ, ramState.Accessible a) ∧
    Instr.incMHL.undefinedByte = none ∧ (∀ a ∈ ramState.loads .incMHL, ramState.Accessible a) ∧
    (∀ p ∈ ramState.stores .incMHL, ramState.Writable p.1 p.2) ∧
    (∀ p ∈ ramState.stores .pushAF, ramState.Writable p.1 p.2) := by
  have noRam : ramState.mbc.ramEnable ≠ true := by decide
  have access (a : Word) (h : ¬ (0xFF4C ≤ a.toNat ∧ a.toNat ≤ 0xFF7F)) : ramState.Accessible a :=
    ⟨h, fun _ _ e => absurd e noRam⟩
  have loadsRet : ramState.loads .retZ = [0xD000, 0xD001] := by decide
  have loadsInc : ramState.loads .incMHL = [0xC100] := by decide
  have storesInc : ramState.stores .incMHL = [(0xC100, 0x78)] := by decide
  have storesPush : ramState.stores .pushAF = [(0xCFFF, 0x42), (0xCFFE, 0xF0)] := by decide
  rw [loadsRet, loadsInc, storesInc, storesPush]
  refine ⟨rfl, fun a h => access a ?_, rfl, fun a h => access a ?_, fun p h => ⟨access _ ?_, fun e => ?_⟩,
    fun p h => ⟨access _ ?_, fun e => ?_⟩⟩ <;>
    simp only [List.mem_cons, List.not_mem_nil, or_false] at h <;> rcases h with rfl | rfl <;>
    first | decide | exact absurd e (by decide)

theorem test_witness_FlagsAreWrittenOnlyByTheirInstructions :
    Instr.pushBC.wellFormed = true ∧ leavesFlags (encode .pushBC) = true ∧ (∃ t, exec .pushBC ramState = .next t) ∧
    leavesFlags (encode .set0B) = true ∧ leavesFlags (encode .bit0B) = false ∧ leavesFlags (encode .popAF) = false :=
  ⟨rfl, by decide, next_of (by decide), by decide, by decide, by decide⟩

/-- A halted core with IME set that a pending VBlank wakes. -/
theorem test_witness_WritersOfImeAndHalted :
    (∃ t, exec .nop ramState = .next t) ∧
    after { launched with halted := true, ime := true, ieReg := 0x01, ifReg := 0x01 } (fun t => t.halted) =
      some false := ⟨next_of (by decide), by decide⟩

theorem test_witness_StepRunsTheDecodedInstruction :
    launched.halted = false ∧ fetch launched launched.pc = .ok [0x00] ∧ decode [0x00] = .ok .nop 1 4 ∧
    holeState.halted = false ∧
    fetch { holeState with pc := 0xFF50 } 0xFF50 = .error (.unmappedAddress 0xFF50) ∧
    ({ launched with halted := true } : State).halted = true :=
  ⟨rfl, by decide, by decide, rfl, by decide, rfl⟩

/-- The last address a two-byte instruction fits at, and the first one it does not; a first byte in the fatal range, a
second byte there after the last display register, and one in external RAM after its 2 KiB. -/
theorem test_witness_FetchReadsBytesInOrder :
    (0xFFFE : Word).toNat + opLength 0x3E ≤ 0x10000 ∧
    busRead { launched with hram := [(0x7E, 0x3E)] } 0xFFFE = .ok 0x3E ∧
    busRead { launched with hram := [(0x7E, 0x3E)] } (0xFFFE + BitVec.ofNat 16 (0 + 1)) = .ok 0x00 ∧
    ({ launched with pc := 0xFFFF, ieReg := 0x3E } : State).pc.toNat + opLength 0x3E > 0x10000 ∧
    busRead { launched with pc := 0xFFFF, ieReg := 0x3E } 0xFFFF = .ok 0x3E ∧
    ({ launched with pc := 0xFFFF, ieReg := 0x3E } : State).Accessible (0xFFFF + BitVec.ofNat 16 0) ∧
    ({ launched with pc := 0xFFFF, ieReg := 0x3E } : State).halted = false ∧
    ¬ ({ launched with pc := 0xFF4C } : State).Accessible (0xFF4C + BitVec.ofNat 16 0) ∧
    busRead { launched with pc := 0xFF4B, periph := .reference [(0xFF4B, 0x3E)] } 0xFF4B = .ok 0x3E ∧
    1 < opLength 0x3E ∧
    (∀ j, j < 1 → ({ launched with pc := 0xFF4B, periph := .reference [(0xFF4B, 0x3E)] } : State).Accessible
      (0xFF4B + BitVec.ofNat 16 j)) ∧
    ¬ ({ launched with pc := 0xFF4B, periph := .reference [(0xFF4B, 0x3E)] } : State).Accessible
      (0xFF4B + BitVec.ofNat 16 1) ∧
    faultOf { launched with pc := 0xFF4B, periph := .reference [(0xFF4B, 0x3E)] } = some (.unmappedAddress 0xFF4C) ∧
    faultOf { launched with pc := 0xA7FF, ramSizeCode := 1, cartRam := [(0x7FF, 0x3E)]
                            mbc := { launched.mbc with ramEnable := true } } = some (.extramOutOfRange 0xA800) :=
  ⟨by decide, by decide, by decide, by decide, by decide, by decide, rfl, by decide, by decide, by decide,
    fun j hj => by interval_cases j; decide, by decide, by decide, by decide⟩

theorem test_witness_DispatchEntersTheHandler :
    (∃ t, push16 { ramState with ifReg := 0, ime := false, halted := false } ramState.pc = .ok t) ∧
    (∃ e, push16 { holeState with ifReg := 0, ime := false, halted := false } holeState.pc = .error e) :=
  ⟨ok_of (by decide), error_of (by decide)⟩

/-- The lowest and the highest source, each with no lower one ready, and the two ways nothing is dispatched. -/
theorem test_witness_LowestReadySourceIsServiced :
    ({ launched with ime := true, ieReg := 0x1F, ifReg := 0x01 } : State).ime = true ∧
    intReady 0x01 0x1F .vblank = true ∧ intReady 0x10 0x1F .joypad = true ∧
    (intReady 0x10 0x1F .vblank = false ∧ intReady 0x10 0x1F .lcdStat = false ∧
      intReady 0x10 0x1F .timer = false ∧ intReady 0x10 0x1F .serial = false) ∧
    launched.ime = false ∧ readySource 0xE0 0xE0 = none := by decide

theorem test_witness_HandlerReturnsWhereItWasEntered :
    ramState.StoresAt (ramState.sp - 1) ∧ ramState.StoresAt (ramState.sp - 2) := ⟨by decide, by decide⟩

theorem test_witness_StepKeepsInvariant : launched.Inv ∧ ∃ t, step launched = .next t :=
  ⟨⟨by decide, ⟨by decide, by decide, by decide, by decide, by decide, by decide, by decide, by decide,
    show Memory.wf [] by decide⟩, fun _ => rfl⟩, next_of (by decide)⟩

theorem test_witness_DecodeInvertsEncode :
    (Instr.jpNN 0x1234).wellFormed = true ∧ decode [0xC3, 0x34, 0x12, 0x00] = .ok (.jpNN 0x1234) 3 16 :=
  ⟨rfl, by decide⟩

theorem test_witness_EndedProgramStaysEnded : ({ launched with halted := true } : State).Ended := ⟨rfl, rfl, rfl⟩

theorem test_witness_TimingParametersChangeOnlyCycleCounts :
    (∃ t, step launched = .next t) ∧ faultOf { holeState with pc := 0xFF50 } = some (.unmappedAddress 0xFF50) :=
  ⟨next_of (by decide), by decide⟩

/-- A pending VBlank with IME set; the push of its dispatch starts a DMA where SP is `0xFF47`. -/
theorem test_witness_CyclesOfAStep :
    (∃ t, exec .retZ ramState = .next t) ∧ (∃ t, step { launched with halted := true } = .next t) ∧
    (∃ t, step launched = .next t) ∧ launched.halted = false ∧ fetch launched launched.pc = .ok [0x00] ∧
    decode [0x00] = .ok .nop 1 4 ∧ ¬ launched.TakesInterrupt ∧
    ({ launched with ime := true, ieReg := 0x01, ifReg := 0x01 } : State).TakesInterrupt ∧
    dmaStarts (State.pushed { launched with sp := 0xFF47 } 0x0101) = 1 ∧
    dmaStarts (State.pushed { launched with sp := 0xFF48 } 0x0101) = 1 :=
  ⟨next_of (by decide), next_of (by decide), next_of (by decide), rfl, by decide, by decide,
    fun h => absurd h.1 (by decide), ⟨rfl, .vblank, rfl, by decide⟩, by decide, by decide⟩

/-- R92 and R423: the NOP of the reference cartridge, then a dispatch whose push starts a DMA. -/
theorem test_cycles_of_dispatch_with_dma :
    after { launched with ime := true, ieReg := 0x01, ifReg := 0x01, sp := 0xFF47
                          params := { launched.params with dmaCycles := 7 } } (fun t => t.cycles) =
      some { instruction := 4, dma := 7, dispatch := 20 } := by decide

/-- The reference cartridge of spec/95_test_vectors.md section 0.2, with other bytes in its place where `extra` has
them. -/
def reference (extra : List Host.Cell) : List Host.Cell :=
  [(0x101, 0xC3), (0x102, 0x50), (0x103, 0x01), (0x147, 0x01), (0x14D, 0xE6)] ++ extra

/-- Why a launch is refused, or nothing where it is accepted. -/
def refusedFor (x : LaunchInput) : Option RomDefect :=
  match launch x with
  | .error (.malformedRom d) => some d
  | _ => none

/-- Hd1 to Hd5, Hd8, Hd10, Hd11, Hd15, Hd16 and Hd17: an image for each check of the header, and the accepted ends. -/
theorem test_witness_LaunchChecksTheHeader :
    refusedFor (.ofRom 0x8000 (reference [])) = none ∧
    refusedFor { LaunchInput.ofRom 0x8000 (reference []) with checksumForm := .literal } = some .checksum ∧
    refusedFor { LaunchInput.ofRom 0x8000 (reference [(0x14D, 0xFE)]) with checksumForm := .literal } = none ∧
    refusedFor (.ofRom 0x8000 (reference [(0x14D, 0xFE)])) = some .checksum ∧
    refusedFor (.ofRom 0x8000 (reference [(0x14C, 0x01)])) = some .checksum ∧
    refusedFor (.ofRom 0x14F (reference [])) = some .length ∧
    refusedFor (.ofRom 0x10000 (reference [])) = some .length ∧
    refusedFor (.ofRom 0x8000 (reference [(0x147, 0x00), (0x14D, 0xE7)])) = some .cartType ∧
    refusedFor (.ofRom 0x8000 (reference [(0x148, 0x09)])) = some .romSizeCode ∧
    refusedFor (.ofRom 0x8000 (reference [(0x149, 0x06), (0x14D, 0xE0)])) = some .ramSizeCode ∧
    refusedFor (.ofRom 0x800000 (reference [(0x148, 0x08), (0x14D, 0xDE)])) = none := by decide

/-- A launched state: a clean peripheral, and an F whose low nibble is masked (log entry 20). -/
theorem test_witness_LaunchedState :
    Periph.Clean (.reference []) ∧ (checksumBytes (Memory.load 0x8000 (reference []))).length = 25 ∧
    (launchState { LaunchInput.ofRom 0x8000 (reference []) with regs := { Regs.reset with f := 0xBF } } []).regs =
      Regs.reset := ⟨show Memory.wf [] by decide, rfl, by decide⟩

/-- An index outside the storage, one that no entry lists, and one listed twice. -/
theorem test_witness_LoadedImage :
    (Memory.load 0x7F [(0x7F, 0x11)]).read 0x7F = 0x00 ∧ (Memory.load 0x7F [(0x7F, 0x11)]).read 0x7E = 0x00 ∧
    (Memory.load 0x7F [(0x7E, 0x11), (0x7E, 0x22)]).read 0x7E = 0x22 := by decide

end Sys2Proof.Machine
end

section
/-! PROOFS. The register pairs as views of two bytes and the flags as bits of F (spec/10_state.md R31, R33, R34;
spec/30_encoding.md R127). -/

namespace Sys2Proof.Machine

/-! ## A pair written from two bytes -/

@[simp] theorem State.setRp_bc_ofBytes (s : State) (hi lo : Byte) :
    s.setRp .bc (ofBytes hi lo) = { s with regs := { s.regs with b := hi, c := lo } } := by
  simp [State.setRp]

@[simp] theorem State.setRp_de_ofBytes (s : State) (hi lo : Byte) :
    s.setRp .de (ofBytes hi lo) = { s with regs := { s.regs with d := hi, e := lo } } := by
  simp [State.setRp]

@[simp] theorem Regs.setHL_ofBytes (g : Regs) (hi lo : Byte) :
    g.setHL (ofBytes hi lo) = { g with h := hi, l := lo } := by
  simp [Regs.setHL]

@[simp] theorem State.setRp_hl_ofBytes (s : State) (hi lo : Byte) :
    s.setRp .hl (ofBytes hi lo) = { s with regs := { s.regs with h := hi, l := lo } } := by
  simp [State.setRp, State.setHL]

/-! ## Flags and conditions as bits of F -/

/-- Each flag is its bit of F (R33). -/
theorem getFlag_eq_bit (f : Byte) :
    getFlag f .z = f.getLsbD 7 ∧ getFlag f .n = f.getLsbD 6 ∧ getFlag f .h = f.getLsbD 5 ∧
      getFlag f .cy = f.getLsbD 4 := ⟨rfl, rfl, rfl, rfl⟩

/-- The conditions of R127 through the bits of F that hold Z and CY. -/
theorem State.cond_eq_bit (s : State) :
    s.cond .nz = !s.regs.f.getLsbD 7 ∧ s.cond .z = s.regs.f.getLsbD 7 ∧
      s.cond .nc = !s.regs.f.getLsbD 4 ∧ s.cond .c = s.regs.f.getLsbD 4 := ⟨rfl, rfl, rfl, rfl⟩

/-- Settles O1: each clause is the law of one accessor; the reads hold by definition, and the writes come down to the
laws of `ofBytes`, `Regs.set` and `setFlag`. -/
theorem registerViewsAndFlagBits : Obligations.RegisterViewsAndFlagBits := by
  unfold Obligations.RegisterViewsAndFlagBits
  refine ⟨?registerWrite, ?registers, fun _ _ _ => rfl, ?pairsOfRp2, ?pairsOfRp, ?pairWrites,
    ?bytesOfWord, getFlag_eq_bit, ?flagWrite, ?allFlags, State.cond_eq_bit⟩
  case registerWrite => exact fun g w r v => ⟨g.get_set w r v, g.set_f w v⟩
  case registers => exact fun g => ⟨rfl, rfl, rfl, rfl, rfl, rfl, rfl⟩
  case pairsOfRp2 => exact fun s => ⟨rfl, rfl, rfl, rfl⟩
  case pairsOfRp => exact fun s => ⟨rfl, rfl, rfl, rfl⟩
  case pairWrites =>
    exact fun s hi lo => ⟨s.setRp_bc_ofBytes hi lo, s.setRp_de_ofBytes hi lo, s.setRp_hl_ofBytes hi lo, rfl⟩
  case bytesOfWord => exact fun hi lo => ⟨hiByte_ofBytes hi lo, loByte_ofBytes hi lo, toNat_ofBytes hi lo⟩
  case flagWrite => exact fun f g k v => ⟨getFlag_setFlag f g k v, setFlag_lowNibble f g v⟩
  case allFlags =>
    exact fun f z n h cy => ⟨getFlag_withFlags_z f z n h cy, getFlag_withFlags_n f z n h cy,
      getFlag_withFlags_h f z n h cy, getFlag_withFlags_cy f z n h cy⟩

end Sys2Proof.Machine
end

section
/-! PROOFS. Unmapped addresses, work RAM, high RAM and the peripheral's addresses on the bus (spec/20_memory.md R63,
R66, R68, R70, R72, R74, R75, R96), where a read succeeds, and what of the peripheral it sees. -/

namespace Sys2Proof.Machine

/-! ## Unmapped addresses and RAM -/

theorem busAccess_unmapped (s : State) {a : Word} (v : Byte) (h : unmappedAddress a) :
    busRead s a = .ok 0 ∧ busWrite s a v = .ok s := by
  simp [busRead, busWrite, route_unmapped h]

theorem busAccess_wram (s : State) {a : Word} (v : Byte) (h1 : 0xC000 ≤ a.toNat) (h2 : a.toNat ≤ 0xDFFF) :
    busRead s a = .ok (s.wram.read (a.toNat - 0xC000)) ∧
      busWrite s a v = .ok { s with wram := s.wram.write (a.toNat - 0xC000) v } := by
  simp [busRead, busWrite, route_wram h1 h2]

theorem busAccess_hram (s : State) {a : Word} (v : Byte) (h1 : 0xFF80 ≤ a.toNat) (h2 : a.toNat ≤ 0xFFFE) :
    busRead s a = .ok (s.hram.read (a.toNat - 0xFF80)) ∧
      busWrite s a v = .ok { s with hram := s.hram.write (a.toNat - 0xFF80) v } := by
  simp [busRead, busWrite, route_hram h1 h2]

/-- Settles O32: each range is one target of the router. -/
theorem unmappedAddressesAndRam : Obligations.UnmappedAddressesAndRam := by
  unfold Obligations.UnmappedAddressesAndRam
  exact fun s a v => ⟨busAccess_unmapped s v, busAccess_wram s v, busAccess_hram s v⟩

/-! ## The peripheral's addresses -/

/-- A gated write is no write while the display locks its memory, and else the peripheral's (R66, R70). -/
theorem State.gatedWrite_eq (s : State) (a : Word) (v : Byte) :
    s.gatedWrite a v = if s.periph.locked then s else s.periphWrite a v := by
  unfold State.gatedWrite
  split
  · simp [State.afterPeriph]
  · rfl

theorem busAccess_gated (s : State) {a : Word} (v : Byte)
    (h : (0x8000 ≤ a.toNat ∧ a.toNat ≤ 0x9FFF) ∨ (0xFE00 ≤ a.toNat ∧ a.toNat ≤ 0xFE9F)) :
    busRead s a = .ok (if s.periph.locked then 0xFF else s.periph.read a) ∧
      busWrite s a v = .ok (if s.periph.locked then s else s.periphWrite a v) := by
  rcases h with ⟨h1, h2⟩ | ⟨h1, h2⟩
  · simp only [busRead, busWrite, route_vram h1 h2, s.gatedWrite_eq, and_self]
  · simp only [busRead, busWrite, route_oam h1 h2, s.gatedWrite_eq, and_self]

/-- The audio and display registers, the DMA trigger included (R74, R75, R76). -/
abbrev periphRegister (a : Word) : Prop :=
  (0xFF10 ≤ a.toNat ∧ a.toNat ≤ 0xFF26) ∨ (0xFF30 ≤ a.toNat ∧ a.toNat ≤ 0xFF3F) ∨
    (0xFF40 ≤ a.toNat ∧ a.toNat ≤ 0xFF4B)

theorem route_periphRegister {a : Word} (h : periphRegister a) :
    route a = .audio ∨ route a = .display ∨ (route a = .dmaTrigger ∧ a = 0xFF46) := by
  rcases h with h | h | ⟨h1, h2⟩
  · exact .inl (route_audio (.inl h))
  · exact .inl (route_audio (.inr h))
  · by_cases hd : a = 0xFF46
    · exact .inr (.inr ⟨hd ▸ route_dmaTrigger, hd⟩)
    · exact .inr (.inl (route_display h1 h2 fun e => hd (BitVec.eq_of_toNat_eq e)))

/-- A register of the peripheral is never gated, and only `0xFF46` does more on a write than the peripheral does. -/
theorem busAccess_periphRegister (s : State) {a : Word} (v : Byte) (h : periphRegister a) :
    busRead s a = .ok (s.periph.read a) ∧ (a ≠ 0xFF46 → busWrite s a v = .ok (s.periphWrite a v)) := by
  obtain hr | hr | ⟨hr, ha⟩ := route_periphRegister h
  · simp [busRead, busWrite, hr]
  · simp [busRead, busWrite, hr]
  · exact ⟨by simp only [busRead, hr], fun hne => absurd ha hne⟩

/-- Settles O33: the gated ranges and the registers are the two cases of the peripheral's addresses; `periphWrite` is
the state the statement writes out. -/
theorem peripheralAddresses : Obligations.PeripheralAddresses := by
  unfold Obligations.PeripheralAddresses
  exact fun s a v => ⟨busAccess_gated s v, busAccess_periphRegister s v⟩

/-! ## Where a read succeeds, and what of the peripheral it sees -/

theorem State.extRamAccess_ok {s : State} {a : Word} {i : Nat}
    (h : s.mbc.ramEnable = true → s.numRamBanks ≠ 0 ∧ s.ramOffset i < s.ramLength) :
    ∃ o, s.extRamAccess a i = .ok o := by
  by_cases he : s.mbc.ramEnable = true
  · obtain ⟨hb, hk⟩ := h he
    exact ⟨some (s.ramOffset i), by simp [State.extRamAccess, he, hb, hk]⟩
  · exact ⟨none, by simp [State.extRamAccess, he]⟩

/-- A read of an accessible address gives its byte (R64, R88). -/
theorem busRead_of_accessible {s : State} {a : Word} (h : s.Accessible a) : busRead s a = .ok (s.byteAt a) := by
  obtain ⟨hole, ext⟩ := h
  suffices hb : ∃ b, busRead s a = .ok b by
    obtain ⟨b, hb⟩ := hb
    simp [State.byteAt, hb]
  have hr := route_inv a
  unfold busRead
  cases hk : route a with
  | hole => simp only [hk] at hr; exact absurd hr hole
  | extRam i =>
    simp only [hk] at hr
    obtain ⟨ha, hi⟩ := hr
    have hoff : a.toNat - 0xA000 = i := by omega
    obtain ⟨o, ho⟩ := State.extRamAccess_ok (a := a) (i := i) fun he => hoff ▸ ext (by omega) (by omega) he
    cases o with
    | none => exact ⟨0xFF, by simp only [ho]⟩
    | some k => exact ⟨s.cartRam.read k, by simp only [ho]⟩
  | _ => exact ⟨_, rfl⟩

/-- The state with another peripheral. -/
def State.withPeriph (s : State) (p : Periph) : State := { s with periph := p }

/-- A read outside the peripheral does not depend on it. -/
theorem byteAt_withPeriph (s : State) (p : Periph) {a : Word} (h : ¬ periphAddress a) :
    (s.withPeriph p).byteAt a = s.byteAt a := by
  have hr := route_inv a
  unfold State.byteAt busRead
  cases hk : route a with
  | dmaTrigger | vram | oam | audio | display =>
    simp only [hk] at hr
    exact absurd (show periphAddress a by omega) h
  | _ => rfl

/-- Of the reference peripheral, a read sees the cell at its own address and no other. -/
theorem byteAt_withReference {s : State} {c d : Memory} {a : Word} (hs : s.periph = .reference d)
    (h : c.read a.toNat = d.read a.toNat) : (s.withPeriph (.reference c)).byteAt a = s.byteAt a := by
  unfold State.byteAt busRead
  cases route a with
  | dmaTrigger | vram | oam | audio | display => simp [State.withPeriph, hs, Periph.read, Periph.locked, h]
  | _ => rfl

end Sys2Proof.Machine
end

section
/-! PROOFS. Reads of the cartridge ROM through the bank controller (spec/20_memory.md R84, R85, R86, R89). -/

namespace Sys2Proof.Machine

/-- The two bank registers side by side, the upper one above the 5 bits of the lower (R84). -/
theorem State.rawRomBank_eq (s : State) :
    s.rawRomBank = if s.mbc.mode = false then s.mbc.bankUpper.toNat * 32 + s.mbc.bankLower.toNat
      else s.mbc.bankLower.toNat := by
  unfold State.rawRomBank
  rw [← Nat.shiftLeft_add_eq_or_of_lt s.mbc.bankLower.isLt, Nat.shiftLeft_eq]

/-- The number of banks is a power of two (R89). -/
theorem State.numRomBanks_eq (s : State) : s.numRomBanks = 2 ^ (s.romSizeCode.val + 1) := by
  rw [State.numRomBanks, Nat.shiftLeft_eq, Nat.pow_succ']

/-- ROM is its number of banks of `0x4000` bytes (R8, R89). -/
theorem State.romLength_eq (s : State) : s.romLength = s.numRomBanks * 0x4000 := by
  rw [State.romLength, State.numRomBanks, Nat.shiftLeft_eq, Nat.shiftLeft_eq]
  omega

/-- Masking with one less than the number of banks is the remainder by it (R84). -/
theorem State.romBank_eq_mod (s : State) : s.romBank = correctBank s.rawRomBank % s.numRomBanks := by
  rw [State.romBank, s.numRomBanks_eq, Nat.and_two_pow_sub_one_eq_mod]

theorem State.romBank_lt (s : State) : s.romBank < s.numRomBanks := by
  rw [s.romBank_eq_mod]
  exact Nat.mod_lt _ (by rw [s.numRomBanks_eq]; exact Nat.two_pow_pos _)

/-- The effective bank lies inside ROM. -/
theorem State.romBank_inside (s : State) : (s.romBank + 1) * 0x4000 ≤ s.romLength := by
  rw [s.romLength_eq]
  exact Nat.mul_le_mul_right _ s.romBank_lt

theorem busRead_romFixed (s : State) {a : Word} (h : a.toNat ≤ 0x3FFF) : busRead s a = .ok (s.rom.read a.toNat) := by
  simp only [busRead, route_romFixed h]

theorem busRead_romSwitch (s : State) {a : Word} (h1 : 0x4000 ≤ a.toNat) (h2 : a.toNat ≤ 0x7FFF) :
    busRead s a = .ok (s.rom.read (s.romBank * 0x4000 + (a.toNat - 0x4000))) := by
  simp only [busRead, route_romSwitch h1 h2, State.romOffset]

/-- The correction steps over each multiple of 32 that two upper bits can give (R84). -/
theorem correctBank_upper (u : BitVec 2) : correctBank (u.toNat * 32) = u.toNat * 32 + 1 := by
  have := u.isLt
  exact if_pos (by omega)

/-- With 128 banks or more the mask keeps every upper register, and a lower register of 0 reads as 1. -/
theorem State.romBank_of_lower_zero {s : State} (hc : 6 ≤ s.romSizeCode.val) (hm : s.mbc.mode = false)
    (hl : s.mbc.bankLower = 0) : s.romBank = s.mbc.bankUpper.toNat * 32 + 1 := by
  have hraw : s.rawRomBank = s.mbc.bankUpper.toNat * 32 := by simp [s.rawRomBank_eq, hm, hl]
  have hbanks : 2 ^ 7 ≤ s.numRomBanks := by
    rw [s.numRomBanks_eq]
    exact Nat.pow_le_pow_right (by decide) (by omega)
  have := s.mbc.bankUpper.isLt
  rw [s.romBank_eq_mod, hraw, correctBank_upper, Nat.mod_eq_of_lt (by omega)]

/-- Settles O36: the bank the statement writes out is `romBank`. -/
theorem romReadsGoThroughTheBank : Obligations.RomReadsGoThroughTheBank := by
  unfold Obligations.RomReadsGoThroughTheBank
  intro s a raw corrected bank
  have hbank : bank = s.romBank := by
    rw [s.romBank_eq_mod, s.rawRomBank_eq, s.numRomBanks_eq]
    rfl
  rw [hbank]
  exact ⟨busRead_romFixed s, busRead_romSwitch s, s.romBank_inside, State.romBank_of_lower_zero⟩

end Sys2Proof.Machine
end

section
/-! PROOFS. The OAM DMA (spec/20_memory.md R76, R90, R92, R96): the peripheral after each of the bytes copied, and the
write to `0xFF46` as one update of the state. -/

namespace Sys2Proof.Machine

/-! ## The copy, byte by byte -/

/-- The address of byte `i` of a DMA page; no page wraps. -/
theorem toNat_dmaSource (v : Byte) {i : Nat} (h : i < 0xA0) :
    (ofBytes v 0 + BitVec.ofNat 16 i).toNat = 256 * v.toNat + i := by
  have := v.isLt
  have hz : (0 : Byte).toNat = 0 := rfl
  rw [BitVec.toNat_add, toNat_ofBytes, BitVec.toNat_ofNat, hz]
  omega

/-- The copy of a longer list is the copy of its start, then of its last byte. -/
theorem dmaCopy_concat (src : Word) (s : State) (l : List Nat) (i : Nat) :
    dmaCopy src s (l ++ [i]) = (dmaCopy src s l).bind (dmaByte src · i) := by
  induction l generalizing s with
  | nil =>
    simp only [List.nil_append, dmaCopy, Except.bind]
    cases dmaByte src s i <;> rfl
  | cons j rest ih =>
    simp only [List.cons_append, dmaCopy]
    cases dmaByte src s j with
    | ok t => exact ih t
    | error e => rfl

/-- `p i` is the peripheral after the first `i` bytes of a copy, each the byte a read gives at that moment (R90). -/
structure DmaRun (s : State) (src : Word) (p : Nat → Periph) : Prop where
  zero : p 0 = s.periph
  succ : ∀ i, p (i + 1) = (p i).oamDmaWrite i ((s.withPeriph (p i)).byteAt (src + BitVec.ofNat 16 i))

/-- The peripherals of a copy from `src`, by recursion on the number of bytes. -/
def State.dmaPeriph (s : State) (src : Word) : Nat → Periph
  | 0 => s.periph
  | i + 1 =>
    (s.dmaPeriph src i).oamDmaWrite i ((s.withPeriph (s.dmaPeriph src i)).byteAt (src + BitVec.ofNat 16 i))

/-- Every copy has its peripherals. The lemmas below take them as a variable, so that no unification runs a whole
copy. -/
theorem exists_dmaRun (s : State) (src : Word) : ∃ p, DmaRun s src p :=
  ⟨s.dmaPeriph src, rfl, fun _ => rfl⟩

/-- A copy whose source bytes can all be read changes the peripheral alone. -/
theorem dmaCopy_range {s : State} {src : Word} {p : Nat → Periph} {n : Nat} (hp : DmaRun s src p)
    (h : ∀ i, i < n → s.Accessible (src + BitVec.ofNat 16 i)) :
    dmaCopy src s (List.range n) = .ok (s.withPeriph (p n)) := by
  induction n with
  | zero => simp [dmaCopy, State.withPeriph, hp.zero]
  | succ n ih =>
    have hread := busRead_of_accessible (s := s.withPeriph (p n)) (h n n.lt_succ_self)
    rw [List.range_succ, dmaCopy_concat, ih fun i hi => h i (Nat.lt_succ_of_lt hi)]
    simp only [Except.bind, dmaByte, hread, hp.succ]
    rfl

/-- A copy stops at the first source byte that cannot be read, with the fault of that read (R90). -/
theorem dmaCopy_range_fault {s : State} {src : Word} {k n : Nat} {e : Fault} (hk : k < n)
    (before : ∀ i, i < k → s.Accessible (src + BitVec.ofNat 16 i))
    (fault : ∀ p, busRead (s.withPeriph p) (src + BitVec.ofNat 16 k) = .error e) :
    dmaCopy src s (List.range n) = .error e := by
  obtain ⟨p, hp⟩ := exists_dmaRun s src
  induction n, hk using Nat.le_induction with
  | base =>
    rw [List.range_succ, dmaCopy_concat, dmaCopy_range hp before]
    simp only [Except.bind, dmaByte, fault]
  | succ n _ ih =>
    rw [List.range_succ, dmaCopy_concat, ih]
    rfl

/-! ## The write to `0xFF46` -/

/-- The state after a DMA whose copy has left the peripheral `p`: the register write of `0xFF46` with its requests, and
the cycles of R92. -/
def State.afterDma (s : State) (p : Periph) (v : Byte) : State :=
  { s with periph := (p.write 0xFF46 v).1, ifReg := s.ifReg ||| (p.write 0xFF46 v).2.setWidth 8
           cycles := { s.cycles with dma := s.cycles.dma + s.params.dmaCycles } }

theorem dmaWrite_of_copy {s : State} {p : Periph} {v : Byte}
    (h : dmaCopy (ofBytes v 0) s (List.range 0xA0) = .ok (s.withPeriph p)) : dmaWrite s v = .ok (s.afterDma p v) := by
  simp only [dmaWrite, h]
  rfl

theorem busWrite_dmaTrigger {s : State} {v : Byte} {p : Nat → Periph} (hp : DmaRun s (ofBytes v 0) p)
    (h : ∀ i, i < 0xA0 → s.Accessible (ofBytes v 0 + BitVec.ofNat 16 i)) :
    busWrite s 0xFF46 v = .ok (s.afterDma (p 0xA0) v) := by
  rw [busWrite, route_dmaTrigger]
  exact dmaWrite_of_copy (dmaCopy_range hp h)

/-- A DMA from page `0xFF` meets the fatal range of R64 at its byte `0x4C`. -/
theorem busWrite_dmaTrigger_lastPage (s : State) : busWrite s 0xFF46 0xFF = .error (.unmappedAddress 0xFF4C) := by
  have before : ∀ i, i < 0x4C → s.Accessible (ofBytes 0xFF 0 + BitVec.ofNat 16 i) := by
    intro i hi
    have := toNat_dmaSource 0xFF (i := i) (by omega)
    have hv : (0xFF : Byte).toNat = 255 := rfl
    exact ⟨by omega, by omega⟩
  have hcopy : dmaCopy (ofBytes 0xFF 0) s (List.range 0xA0) = .error (.unmappedAddress 0xFF4C) :=
    dmaCopy_range_fault (k := 0x4C) (by decide) before fun _ => rfl
  simp only [busWrite, route_dmaTrigger, dmaWrite, hcopy]

/-! ## The two peripherals -/

/-- On the free peripheral the requests of a write are those of the calls made, itself included. -/
theorem Periph.write_requests_of_free {p : Periph} {a : Word} {v : Byte} {calls : List Config.PeriphCall}
    (h : (p.write a v).1 = .free calls) : (p.write a v).2 = Config.periphRequests calls := by
  cases p with
  | free _ => cases h; rfl
  | reference _ => cases h

/-- On the free peripheral a copy from outside the peripheral makes one call for each byte, newest first. -/
theorem DmaRun.free {s : State} {src : Word} {p : Nat → Periph} {n : Nat} {calls : List Config.PeriphCall}
    (hp : DmaRun s src p) (hs : s.periph = .free calls)
    (h : ∀ i, i < n → ¬ periphAddress (src + BitVec.ofNat 16 i)) :
    p n = .free (((List.range n).map fun i =>
      Config.PeriphCall.oamDma i (s.byteAt (src + BitVec.ofNat 16 i))).reverse ++ calls) := by
  induction n with
  | zero => exact hp.zero.trans hs
  | succ n ih =>
    rw [hp.succ, byteAt_withPeriph s _ (h n n.lt_succ_self), ih fun i hi => h i (Nat.lt_succ_of_lt hi)]
    simp [List.range_succ, Periph.oamDmaWrite]

/-- `c` is the reference peripheral's storage after the first `n` bytes of a DMA of page `v`: OAM holds them as they
were read before the copy, and every other cell is as it was. -/
structure CopiedToOam (s : State) (v : Byte) (n : Nat) (d c : Memory) : Prop where
  copied : ∀ i, i < n → c.read (0xFE00 + i) = s.byteAt (ofBytes v 0 + BitVec.ofNat 16 i)
  kept : ∀ k, (∀ i, i < n → k ≠ 0xFE00 + i) → c.read k = d.read k

/-- On the reference peripheral a copy stores the bytes as they were read before it: a source byte inside OAM is
overwritten only by its own copy. -/
theorem DmaRun.reference {s : State} {v : Byte} {p : Nat → Periph} {d : Memory} {n : Nat}
    (hp : DmaRun s (ofBytes v 0) p) (hs : s.periph = .reference d) (hn : n ≤ 0xA0) :
    ∃ c, p n = .reference c ∧ CopiedToOam s v n d c := by
  induction n with
  | zero => exact ⟨d, hp.zero.trans hs, ⟨fun _ hi => absurd hi (Nat.not_lt_zero _), fun _ _ => rfl⟩⟩
  | succ n ih =>
    obtain ⟨c, hc, copied, kept⟩ := ih (by omega)
    have hsource : c.read (ofBytes v 0 + BitVec.ofNat 16 n).toNat = d.read (ofBytes v 0 + BitVec.ofNat 16 n).toNat :=
      kept _ fun i hi => by rw [toNat_dmaSource v (by omega)]; omega
    refine ⟨c.write (0xFE00 + n) (s.byteAt (ofBytes v 0 + BitVec.ofNat 16 n)), ?_, fun i hi => ?_, fun k hk => ?_⟩
    · rw [hp.succ, hc, byteAt_withReference hs hsource]
      rfl
    · by_cases h : i = n
      · rw [h, Memory.read_write_same]
      · rw [Memory.read_write_other _ _ (by omega), copied i (by omega)]
    · rw [Memory.read_write_other _ _ (hk n n.lt_succ_self), kept k fun i hi => hk i (Nat.lt_succ_of_lt hi)]

/-- The write to `0xFF46` on the reference peripheral: no requests, OAM the page as it was read, the register the value
written, and no other address changed. -/
theorem State.afterDma_reference {s : State} {v : Byte} {d c : Memory} (hs : s.periph = .reference d)
    (hc : CopiedToOam s v 0xA0 d c) :
    (s.afterDma (.reference c) v).ifReg = s.ifReg ∧
      (∀ i, i < 0xA0 → (s.afterDma (.reference c) v).periph.read (0xFE00 + BitVec.ofNat 16 i) =
        s.byteAt (ofBytes v 0 + BitVec.ofNat 16 i)) ∧
      (s.afterDma (.reference c) v).periph.read 0xFF46 = v ∧
      (∀ a : Word, ¬ (0xFE00 ≤ a.toNat ∧ a.toNat ≤ 0xFE9F) → a ≠ 0xFF46 →
        (s.afterDma (.reference c) v).periph.read a = s.periph.read a) := by
  simp only [State.afterDma, hs, Periph.write, Periph.read]
  refine ⟨by simp, fun i hi => ?oam, Memory.read_write_same c _ v, fun a ha hne => ?others⟩
  case oam =>
    have ha : (0xFE00 + BitVec.ofNat 16 i : Word).toNat = 0xFE00 + i := by bv_omega
    have hne : 0xFE00 + i ≠ (0xFF46 : Word).toNat := by rw [show (0xFF46 : Word).toNat = 0xFF46 from rfl]; omega
    rw [ha, Memory.read_write_other _ _ hne, hc.copied i hi]
  case others =>
    rw [Memory.read_write_other _ _ fun e => hne (BitVec.eq_of_toNat_eq e), hc.kept _ (by omega)]

/-- Settles O38: the state after the write is `afterDma` of the last peripheral of the copy. -/
theorem dmaCopiesAPageToOam : Obligations.DmaCopiesAPageToOam := by
  unfold Obligations.DmaCopiesAPageToOam
  intro s v src
  obtain ⟨p, hp⟩ := exists_dmaRun s (ofBytes v 0)
  refine ⟨fun hread =>
    ⟨s.afterDma (p 0xA0) v, busWrite_dmaTrigger hp hread, rfl, ?order, ?reference, ?requests, ?calls⟩, ?lastPage⟩
  case order => exact ⟨p, hp.zero, fun i _ => hp.succ i, rfl, rfl⟩
  case reference =>
    intro cells hs
    obtain ⟨c, hlast, hc⟩ := hp.reference hs (Nat.le_refl 0xA0)
    rw [hlast]
    exact State.afterDma_reference hs hc
  case requests =>
    intro calls h
    exact congrArg (s.ifReg ||| BitVec.setWidth 8 ·) (Periph.write_requests_of_free h)
  case calls =>
    intro calls hs h
    rw [hp.free hs h]
    rfl
  case lastPage =>
    rintro rfl
    exact busWrite_dmaTrigger_lastPage s

end Sys2Proof.Machine
end

section
/-! PROOFS. The loads between registers, immediates and memory, the one-byte stores, and the instructions that push
(spec/40_load.md R201 to R222 and R232; spec/44_control.md R346, R347, R350). -/

namespace Sys2Proof.Machine

/-! ## Outcomes of an operation that can be fatal -/

theorem done_fault {r : Except Fault State} {e : Fault} : done r = .fault e ↔ r = .error e := by
  cases r <;> simp [done]

/-- A load of a register from memory ends in a fault exactly where the read does. -/
theorem ldRegMem_fault {dst : R8} {addr : Word} {s : State} {e : Fault} :
    ldRegMem dst addr s = .fault e ↔ busRead s addr = .error e := by
  unfold ldRegMem
  cases busRead s addr <;> simp

/-- A store of A at HL with HL stepped is one bus write, then the step of HL (R218, R219). -/
theorem ldMemHLA_next {step : Word} {s t : State} :
    ldMemHLA step s = .next t ↔ ∃ u, busWrite s s.regs.hl s.regs.a = .ok u ∧ t = u.setHL (s.regs.hl + step) := by
  unfold ldMemHLA
  cases busWrite s s.regs.hl s.regs.a <;> simp [eq_comm]

theorem ldMemHLA_fault {step : Word} {s : State} {e : Fault} :
    ldMemHLA step s = .fault e ↔ busWrite s s.regs.hl s.regs.a = .error e := by
  unfold ldMemHLA
  cases busWrite s s.regs.hl s.regs.a <;> simp

/-- A call ends in a fault exactly where its push does (R346). -/
theorem callTo_error {target : Word} {s : State} {e : Fault} :
    callTo target s = .error e ↔ push16 s s.pc = .error e := by
  unfold callTo
  cases push16 s s.pc <;> simp

/-- A taken conditional call that answers a state is the call, with 12 cycles more (R347). -/
theorem callIf_next {cc : Cond} {target : Word} {s t : State} (h : s.cond cc = true) :
    callIf cc target s = .next t ↔ ∃ u, callTo target s = .ok u ∧ t = u.charge 12 := by
  rw [callIf, if_pos h]
  cases callTo target s <;> simp [eq_comm]

theorem callIf_fault {cc : Cond} {target : Word} {s : State} {e : Fault} (h : s.cond cc = true) :
    callIf cc target s = .fault e ↔ callTo target s = .error e := by
  rw [callIf, if_pos h]
  cases callTo target s <;> simp

theorem callIf_not_taken {cc : Cond} {s : State} (h : s.cond cc = false) (target : Word) :
    callIf cc target s = .next s := by
  simp [callIf, h]

/-- The target of RST in arithmetic (R350). -/
theorem rstTarget_eq (y : Ix8) : rstTarget y = BitVec.ofNat 16 (8 * y.index) := by
  cases y <;> rfl

/-! ## Instructions that are one load or one store -/

/-- An instruction whose meaning is the shared load loads the byte. -/
theorem loadsByte_of_ldRegMem {i : Instr} {s : State} {dst : R8} {a : Word} (h : exec i s = ldRegMem dst a s) :
    LoadsByte i s dst a :=
  ⟨fun v hv => h.trans (ldRegMem_next.mpr ⟨v, hv, rfl⟩), fun _ he => h.trans (ldRegMem_fault.mpr he)⟩

/-- An instruction whose meaning is one bus write stores the byte and changes nothing else. -/
theorem storesByte_of_busWrite {i : Instr} {s : State} {a : Word} {v : Byte} (h : exec i s = done (busWrite s a v)) :
    StoresByte i s a v id :=
  ⟨fun _ ht => h.trans (done_next.mpr ht), fun _ he => h.trans (done_fault.mpr he)⟩

/-- An instruction whose meaning is the stepped store stores A at HL, then steps HL. -/
theorem storesByte_of_ldMemHLA {i : Instr} {s : State} {step : Word} (h : exec i s = ldMemHLA step s) :
    StoresByte i s s.regs.hl s.regs.a (·.setHL (s.regs.hl + step)) :=
  ⟨fun t ht => h.trans (ldMemHLA_next.mpr ⟨t, ht, rfl⟩), fun _ he => h.trans (ldMemHLA_fault.mpr he)⟩

/-- The `LDH A,(n)` form of a load, at `0xFF00 + n` (R212). -/
theorem loadsByte_ldhAMN (n : Byte) (s : State) : LoadsByte (.ldhAMN n) s .a (0xFF00 + n.setWidth 16) :=
  highPage_eq n ▸ loadsByte_of_ldRegMem (exec_ldhAMN n s)

/-- The `LD A,(C)` form of a load, at `0xFF00 + C` (R214). -/
theorem loadsByte_ldAMC (s : State) : LoadsByte .ldAMC s .a (0xFF00 + s.regs.c.setWidth 16) :=
  highPage_eq s.regs.c ▸ loadsByte_of_ldRegMem (exec_ldAMC s)

/-- The `LDH (n),A` form of a store, at `0xFF00 + n` (R213). -/
theorem storesByte_ldhMNA (n : Byte) (s : State) : StoresByte (.ldhMNA n) s (0xFF00 + n.setWidth 16) s.regs.a id :=
  highPage_eq n ▸ storesByte_of_busWrite (exec_ldhMNA n s)

/-- The `LD (C),A` form of a store, at `0xFF00 + C` (R215). -/
theorem storesByte_ldMCA (s : State) : StoresByte .ldMCA s (0xFF00 + s.regs.c.setWidth 16) s.regs.a id :=
  highPage_eq s.regs.c ▸ storesByte_of_busWrite (exec_ldMCA s)

/-- The `LD (HL-),A` form of a store, with HL lowered by one (R219). -/
theorem storesByte_ldMHLDecA (s : State) :
    StoresByte .ldMHLDecA s s.regs.hl s.regs.a (·.setHL (s.regs.hl - 1)) := by
  rw [BitVec.sub_eq_add_neg]
  exact storesByte_of_ldMemHLA (exec_ldMHLDecA s)

/-! ## The bytes of the families that take an operand from a table -/

theorem decode_ldRR (dst src : R8) : decode [opByte 1 dst.index src.index] = .ok (.ldRR dst src) 1 4 := by
  cases dst <;> cases src <;> rfl

theorem decode_ldSrcN_reg (dst : R8) (n : Byte) :
    decode [opByte 0 dst.index 6, n] = .ok (.ldSrcN (.reg dst) n) 2 8 := by
  cases dst <;> rfl

theorem decode_ldRpNN (rr : Rp) (lo hi : Byte) :
    decode [opByte 0 (2 * rr.index) 1, lo, hi] = .ok (.ldRpNN rr (ofBytes hi lo)) 3 12 := by
  cases rr <;> rfl

theorem decode_ldRMHL (dst : R8) : decode [opByte 1 dst.index 6] = .ok (.ldRMHL dst) 1 8 := by
  cases dst <;> rfl

theorem decode_ldMHLR (src : R8) : decode [opByte 1 6 src.index] = .ok (.ldMHLR src) 1 8 := by
  cases src <;> rfl

theorem decode_pushRp (rr : Rp2) : decode [opByte 3 (2 * rr.index) 5] = .ok (.pushRp rr) 1 16 := by
  cases rr <;> rfl

theorem decode_callCond (cc : Cond) (lo hi : Byte) :
    decode [opByte 3 cc.index 4, lo, hi] = .ok (.callCond cc (ofBytes hi lo)) 3 12 := by
  cases cc <;> rfl

theorem decode_rstY (y : Ix8) : decode [opByte 3 y.index 7] = .ok (.rstY y) 1 16 := by
  cases y <;> rfl

/-! ## The obligations -/

/-- Settles O2: each family runs its shared load, and a pair is written as its two bytes. -/
theorem registerAndImmediateLoads : Obligations.RegisterAndImmediateLoads := by
  unfold Obligations.RegisterAndImmediateLoads
  intro dst src rr n lo hi s
  have hpair (rr : Rp) : exec (.ldRpNN rr (ofBytes hi lo)) s = .next (s.setRp rr (ofBytes hi lo)) :=
    exec_ldRpNN rr _ s
  refine ⟨decode_ldRR dst src, exec_ldRR dst src s, decode_ldSrcN_reg dst n, exec_ldSrcN_reg dst n s,
    decode_ldRpNN rr lo hi, ?bc, ?de, ?hl, hpair .sp, rfl, exec_ldSPHL s⟩
  case bc => rw [hpair, State.setRp_bc_ofBytes]
  case de => rw [hpair, State.setRp_de_ofBytes]
  case hl => rw [hpair, State.setRp_hl_ofBytes]

/-- Settles O3: every form is the shared load at its own address. -/
theorem loadsFromMemory : Obligations.LoadsFromMemory := by
  unfold Obligations.LoadsFromMemory
  intro dst n lo hi s
  exact ⟨decode_ldRMHL dst, loadsByte_of_ldRegMem (exec_ldRMHL dst s),
    rfl, loadsByte_of_ldRegMem (exec_ldAMBC s),
    rfl, loadsByte_of_ldRegMem (exec_ldAMDE s),
    rfl, loadsByte_of_ldRegMem (exec_ldAMNN (ofBytes hi lo) s),
    rfl, loadsByte_ldhAMN n s,
    rfl, loadsByte_ldAMC s⟩

/-- Settles O4: every form is one bus write at its own address; two of them then step HL. -/
theorem storesToMemory : Obligations.StoresToMemory := by
  unfold Obligations.StoresToMemory
  intro src n lo hi s hl
  exact ⟨decode_ldMHLR src, storesByte_of_busWrite (exec_ldMHLR src s),
    rfl, storesByte_of_busWrite (exec_ldSrcN_atHL n s),
    rfl, storesByte_of_busWrite (exec_ldMBCA s),
    rfl, storesByte_of_busWrite (exec_ldMDEA s),
    rfl, storesByte_of_busWrite (exec_ldMNNA (ofBytes hi lo) s),
    rfl, storesByte_ldhMNA n s,
    rfl, storesByte_ldMCA s,
    rfl, storesByte_of_ldMemHLA (exec_ldMHLIncA s),
    rfl, storesByte_ldMHLDecA s⟩

/-- Settles O7: CALL, RST and a taken CALL cc are one call, so each ends as its push does. -/
theorem pushesAndCalls : Obligations.PushesAndCalls := by
  unfold Obligations.PushesAndCalls
  intro rr cc y lo hi s nn
  rw [exec_pushRp, exec_callNN, exec_rstY, exec_callCond, rstTarget_eq]
  refine ⟨decode_pushRp rr, rfl, decode_callCond cc lo hi, decode_rstY y, fun _ => done_next.mpr,
    fun _ => done_fault.mpr, fun t ht => ?pushed, fun e he => ?fatal, fun hc => callIf_not_taken hc nn⟩
  case pushed =>
    have hcall (target : Word) : callTo target s = .ok (t.setPC target) := callTo_ok.mpr ⟨t, ht, rfl⟩
    exact ⟨done_next.mpr (hcall nn), done_next.mpr (hcall _), fun hc => (callIf_next hc).mpr ⟨_, hcall nn, rfl⟩⟩
  case fatal =>
    have hcall (target : Word) : callTo target s = .error e := callTo_error.mpr he
    exact ⟨done_fault.mpr (hcall nn), done_fault.mpr (hcall _), fun hc => (callIf_fault hc).mpr (hcall nn)⟩

end Sys2Proof.Machine
end

section
/-! PROOFS. The accumulator operations, with the sum and the difference in exact integers, and the decrement of a byte
(spec/41_alu8.md R240 to R248, R251, R252). -/

namespace Sys2Proof.Machine

/-! ## Bytes and numbers -/

/-- The zero test of a number modulo 256. -/
theorem ofNat8_beq_zero (n : Nat) : (BitVec.ofNat 8 n == 0) = decide (n % 256 = 0) := by
  rw [beq_eq_decide, decide_eq_decide, ← BitVec.toNat_inj, BitVec.toNat_ofNat]
  rfl

/-- The zero test of an integer modulo 256. -/
theorem ofInt8_beq_zero (i : Int) : (BitVec.ofInt 8 i == 0) = decide (i % 256 = 0) := by
  have h0 : (0 : Byte).toNat = 0 := rfl
  rw [beq_eq_decide, decide_eq_decide, ← BitVec.toNat_inj, BitVec.toNat_ofInt, h0]
  omega

theorem bit8_eq_ofNat (c : Bool) : bit8 c = BitVec.ofNat 8 c.toNat := by
  cases c <;> rfl

/-- The low nibble of a byte is its number modulo 16. -/
theorem toNat_and_0xF (v : Byte) : (v &&& 0xF).toNat = v.toNat % 16 :=
  (BitVec.toNat_and v 0xF).trans (Nat.and_two_pow_sub_one_eq_mod v.toNat 4)

/-- The sum of two bytes and a carry, modulo 256. -/
theorem add_add_bit8 (a b : Byte) (c : Bool) : a + b + bit8 c = BitVec.ofNat 8 (a.toNat + b.toNat + c.toNat) := by
  simp only [BitVec.ofNat_add, BitVec.ofNat_toNat, BitVec.setWidth_eq, bit8_eq_ofNat]

/-- The difference of two bytes and a borrow, modulo 256. -/
theorem sub_sub_bit8 (a b : Byte) (c : Bool) :
    a - b - bit8 c = BitVec.ofInt 8 ((a.toNat : Int) - b.toNat - c.toNat) := by
  simp only [Int.sub_eq_add_neg, BitVec.ofInt_add, BitVec.ofInt_neg, BitVec.ofInt_natCast, BitVec.ofNat_toNat,
    BitVec.setWidth_eq, BitVec.sub_eq_add_neg, bit8_eq_ofNat]

/-! ## The results in exact integers -/

/-- ADD and ADC in exact naturals (R241, R242). -/
theorem add8_eq (a b : Byte) (c : Bool) :
    add8 a b c =
      { value := BitVec.ofNat 8 (a.toNat + b.toNat + c.toNat)
        z := decide ((a.toNat + b.toNat + c.toNat) % 256 = 0)
        n := false
        h := decide (a.toNat % 16 + b.toNat % 16 + c.toNat > 0xF)
        cy := decide (a.toNat + b.toNat + c.toNat > 0xFF) } := by
  simp only [add8, add_add_bit8, ofNat8_beq_zero]

/-- SUB, SBC and CP in exact integers (R243, R244, R248). -/
theorem sub8_eq (a b : Byte) (c : Bool) :
    sub8 a b c =
      { value := BitVec.ofInt 8 ((a.toNat : Int) - b.toNat - c.toNat)
        z := decide (((a.toNat : Int) - b.toNat - c.toNat) % 256 = 0)
        n := true
        h := decide (a.toNat % 16 < b.toNat % 16 + c.toNat)
        cy := decide (a.toNat < b.toNat + c.toNat) } := by
  simp only [sub8, sub_sub_bit8, ofInt8_beq_zero]

/-- DEC with its half-carry from a low nibble of 0 (R251). -/
theorem dec8_eq (v : Byte) (cy : Bool) :
    dec8 v cy =
      { value := v - 1, z := decide (v - 1 = 0), n := true, h := decide (v.toNat % 16 = 0), cy := cy } := by
  have hlow : (v &&& 0xF == 0x0) = decide (v.toNat % 16 = 0) := by
    rw [beq_eq_decide, decide_eq_decide, ← BitVec.toNat_inj, toNat_and_0xF]
    rfl
  rw [dec8, hlow, beq_eq_decide]

/-! ## Where the operand forms are fatal -/

/-- An accumulator operation is fatal exactly where the read of its operand is (R240). -/
theorem aluWith_fault {op : AluOp} {src : Src8} {s : State} {e : Fault} :
    aluWith op src s = .fault e ↔ readSrc s src = .error e := by
  unfold aluWith
  cases readSrc s src <;> simp

/-- A rewrite of an operand is fatal where its read is, or where the write after it is. -/
theorem modifyOperand_fault {src : Src8} {f : Byte → Result8} {s : State} {e : Fault} :
    modifyOperand src f s = .fault e ↔
      readSrc s src = .error e ∨ ∃ v, readSrc s src = .ok v ∧ writeSrc s src (f v).value = .error e := by
  unfold modifyOperand
  cases readSrc s src with
  | error e => simp
  | ok v => cases hw : writeSrc s src (f v).value <;> simp [hw]

/-- An instruction that rewrites the operand at HL is one read and one write there, with the flags of the result
(R250, R252). -/
theorem rewritesByte_of_modifyOperand {i : Instr} {s : State} {f : Byte → Result8}
    (h : exec i s = modifyOperand .atHL f s) :
    RewritesByte i s (fun v => (f v).value) (fun v => withFlags s.regs.f (f v).z (f v).n (f v).h (f v).cy) := by
  rw [RewritesByte, h]
  refine ⟨fun v t hv ht => ?_, fun e he => modifyOperand_fault.mpr (.inl he),
    fun v e hv he => modifyOperand_fault.mpr (.inr ⟨v, hv, he⟩)⟩
  rw [← busWrite_regs ht]
  exact modifyOperand_next.mpr ⟨v, t, hv, ht, rfl⟩

/-- A rewrite of a register always completes, with the register and the flags written. -/
theorem modifyOperand_reg (r : R8) (f : Byte → Result8) (s : State) :
    modifyOperand (.reg r) f s =
      .next { s with regs := { s.regs.set r (f (s.regs.get r)).value with
        f := withFlags s.regs.f (f (s.regs.get r)).z (f (s.regs.get r)).n (f (s.regs.get r)).h
          (f (s.regs.get r)).cy } } :=
  modifyOperand_next.mpr ⟨s.regs.get r, _, rfl, rfl, by rw [← Regs.set_f s.regs r]; rfl⟩

/-! ## The accumulator operations -/

/-- Every form of an accumulator operation answers the state of the shared operation (R240). -/
theorem aluGives_aluState (op : AluOp) (b : Byte) (s : State) : AluGives op b s (aluState op b s) := by
  rw [AluGives, exec_aluN, exec_aluSrc]
  refine ⟨rfl, fun r hr => ?_, fun hb => aluWith_next.mpr ⟨b, hb, rfl⟩⟩
  rw [exec_aluSrc]
  exact aluWith_next.mpr ⟨b, congrArg Except.ok hr, rfl⟩

theorem decode_aluSrc (op : AluOp) (src : Src8) :
    decode [opByte 2 op.index src.index] = .ok (.aluSrc op src) 1 (if src = .atHL then 8 else 4) := by
  rcases src with r | _
  · cases op <;> cases r <;> rfl
  · cases op <;> rfl

theorem decode_aluN (op : AluOp) (n : Byte) : decode [opByte 3 op.index 6, n] = .ok (.aluN op n) 2 8 := by
  cases op <;> rfl

theorem decode_decSrc_reg (r : R8) : decode [opByte 0 r.index 5] = .ok (.decSrc (.reg r)) 1 4 := by
  cases r <;> rfl

/-! ## The obligations -/

/-- Settles O11: every form is the shared operation on the byte its operand reads. -/
theorem aluOperandForms : Obligations.AluOperandForms := by
  unfold Obligations.AluOperandForms
  intro op src r n s
  refine ⟨decode_aluSrc op src, decode_aluN op n, ?register, fun v hv => ?atHL, fun e he => ?fatal⟩
  case register =>
    obtain ⟨himm, hreg, -⟩ := aluGives_aluState op (s.regs.get r) s
    exact (hreg r rfl).trans himm.symm
  case atHL =>
    obtain ⟨himm, -, hmem⟩ := aluGives_aluState op v s
    exact (hmem hv).trans himm.symm
  case fatal => exact (exec_aluSrc op .atHL s).trans (aluWith_fault.mpr he)

/-- Settles O12: ADD is ADC without its carry, and both are the exact sum. -/
theorem additionToA : Obligations.AdditionToA := by
  unfold Obligations.AdditionToA
  intro b s a c
  have hadd := aluGives_aluState .add b s
  have hadc := aluGives_aluState .adc b s
  simp only [aluState, alu8, add8_eq, Bool.toNat_false, Nat.add_zero] at hadd hadc
  exact ⟨hadd, hadc⟩

/-- Settles O13: SUB and CP are SBC without its borrow, all three the exact difference, which CP does not store. -/
theorem subtractionFromA : Obligations.SubtractionFromA := by
  unfold Obligations.SubtractionFromA
  intro b s a c subFlags
  have hsub := aluGives_aluState .sub b s
  have hsbc := aluGives_aluState .sbc b s
  have hcp := aluGives_aluState .cp b s
  simp only [aluState, alu8, sub8_eq, Bool.toNat_false, Nat.cast_zero, sub_zero, add_zero] at hsub hsbc hcp
  exact ⟨hsub, hsbc, hcp⟩

/-- Settles O14: the flags of a logic operation are the zero test of its result and constants. -/
theorem logicOnA : Obligations.LogicOnA := by
  unfold Obligations.LogicOnA
  intro b s
  exact ⟨aluGives_aluState .and b s, aluGives_aluState .xor b s, aluGives_aluState .or b s⟩

/-- Settles O16: DEC is the shared rewrite of an operand by `dec8`. -/
theorem decrementOfAByte : Obligations.DecrementOfAByte := by
  unfold Obligations.DecrementOfAByte
  intro r s flags
  have hreg := (exec_decSrc (.reg r) s).trans (modifyOperand_reg r _ s)
  have hmem := rewritesByte_of_modifyOperand (exec_decSrc .atHL s)
  simp only [dec8_eq] at hreg hmem
  exact ⟨decode_decSrc_reg r, hreg, rfl, hmem⟩

end Sys2Proof.Machine
end

section
/-! PROOFS. The addition of a pair to HL, with the sum and its carries in exact integers (spec/42_alu16.md R282). -/

namespace Sys2Proof.Machine

theorem decode_addHLRp (rr : Rp) : decode [opByte 0 (2 * rr.index + 1) 1] = .ok (.addHLRp rr) 1 8 := by
  cases rr <;> rfl

/-- ADD HL,rr in exact naturals: the sum written to the two bytes of HL, and Z written back as it was (R282). -/
theorem addHLPair_eq (rr : Rp) (s : State) :
    addHLPair rr s =
      .next ((s.setHL (BitVec.ofNat 16 (s.regs.hl.toNat + (s.getRp rr).toNat))).setFlags (getFlag s.regs.f .z) false
        (decide (s.regs.hl.toNat % 0x1000 + (s.getRp rr).toNat % 0x1000 > 0x0FFF))
        (decide (s.regs.hl.toNat + (s.getRp rr).toNat > 0xFFFF))) := by
  rw [addHLPair, BitVec.add_def, addHLHalf, addHLCarry, State.flag]

/-- Settles O22: every pair runs the one shared addition, whose 16-bit sum is the exact sum modulo 65536. -/
theorem additionToHL : Obligations.AdditionToHL := by
  unfold Obligations.AdditionToHL
  intro rr s h v
  exact ⟨decode_addHLRp rr, (exec_addHLRp rr s).trans (addHLPair_eq rr s)⟩

end Sys2Proof.Machine
end

section
/-! PROOFS. The rotates and shifts in arithmetic, and BIT, RES and SET (spec/43_rotate_shift_bit.md R301 to R304, R306
to R315). -/

namespace Sys2Proof.Machine

/-! ## The bits at the two ends of a byte -/

theorem getLsbD_seven (v : Byte) : v.getLsbD 7 = decide (128 ≤ v.toNat) :=
  BitVec.msb_eq_decide v

theorem getLsbD_zero (v : Byte) : v.getLsbD 0 = decide (v.toNat % 2 = 1) := by
  rw [BitVec.getLsbD, Nat.testBit_zero]

theorem toNat_getLsbD_seven (v : Byte) : (v.getLsbD 7).toNat = v.toNat / 128 := by
  have := v.isLt
  rw [getLsbD_seven, Bool.toNat, Bool.cond_decide]
  split <;> omega

theorem toNat_getLsbD_zero (v : Byte) : (v.getLsbD 0).toNat = v.toNat % 2 := by
  rw [getLsbD_zero, Bool.toNat, Bool.cond_decide]
  split <;> omega

/-- The top bit of a byte as bit 7 of a byte, which SRA keeps (R310). -/
theorem and_0x80_eq_bit8 (v : Byte) : v &&& (0x80 : Byte) = bit8 (v.getLsbD 7) <<< 7 := by
  rw [show (0x80 : Byte) = BitVec.twoPow 8 7 from rfl, BitVec.and_twoPow]
  cases v.getLsbD 7 <;> rfl

/-! ## The rotates in arithmetic -/

/-- The OR of a multiple of a power of two with a number below it is their sum. -/
theorem toNat_or_of_low {hi lo : Byte} {i m : Nat} (hhi : hi.toNat = 2 ^ i * m) (hlo : lo.toNat < 2 ^ i) :
    (hi ||| lo).toNat = hi.toNat + lo.toNat := by
  rw [BitVec.toNat_or, hhi, Nat.two_pow_add_eq_or_of_lt hlo]

theorem toNat_bit8 (c : Bool) : (bit8 c).toNat = c.toNat := by
  cases c <;> rfl

/-- A shift left by one with `c` moved into bit 0. -/
theorem shiftLeft_or_bit8 (v : Byte) (c : Bool) :
    v <<< 1 ||| bit8 c = BitVec.ofNat 8 (2 * v.toNat % 256 + c.toNat) := by
  have := v.isLt
  have hc := c.toNat_lt
  have hhi : (v <<< 1).toNat = 2 ^ 1 * (v.toNat % 128) := by
    rw [BitVec.toNat_shiftLeft, Nat.shiftLeft_eq]
    omega
  apply BitVec.eq_of_toNat_eq
  rw [toNat_or_of_low hhi (toNat_bit8 c ▸ hc), hhi, toNat_bit8, BitVec.toNat_ofNat]
  omega

/-- A shift right by one with `c` moved into bit 7. -/
theorem shiftRight_or_bit8 (v : Byte) (c : Bool) :
    v >>> 1 ||| bit8 c <<< 7 = BitVec.ofNat 8 (v.toNat / 2 + 128 * c.toNat) := by
  have := v.isLt
  have hc := c.toNat_lt
  have hhi : (bit8 c <<< 7).toNat = 2 ^ 7 * c.toNat := by cases c <;> rfl
  have hlo : (v >>> 1).toNat = v.toNat / 2 := by rw [BitVec.toNat_ushiftRight, Nat.shiftRight_eq_div_pow]
  apply BitVec.eq_of_toNat_eq
  rw [BitVec.or_comm, toNat_or_of_low hhi (by omega), hhi, hlo, BitVec.toNat_ofNat]
  omega

/-- The two nibbles exchanged (R311). -/
theorem swapNibbles_eq (v : Byte) :
    (v &&& 0x0F) <<< 4 ||| v >>> 4 = BitVec.ofNat 8 (16 * (v.toNat % 16) + v.toNat / 16) := by
  have := v.isLt
  have hhi : ((v &&& 0x0F) <<< 4).toNat = 2 ^ 4 * (v.toNat % 16) := by
    rw [BitVec.toNat_shiftLeft, toNat_and_0xF, Nat.shiftLeft_eq]
    omega
  have hlo : (v >>> 4).toNat = v.toNat / 16 := by rw [BitVec.toNat_ushiftRight, Nat.shiftRight_eq_div_pow]
  apply BitVec.eq_of_toNat_eq
  rw [toNat_or_of_low hhi (by omega), hhi, hlo, BitVec.toNat_ofNat]
  omega

/-- Every rotate, shift and SWAP is the arithmetic of `rotated`, with `shiftedOut` as its carry: each is a shift by one
with a bit moved in at the other end, SWAP apart (R305 to R312). -/
theorem rotate8_eq (op : RotOp) (v : Byte) (cy : Bool) :
    rotate8 op v cy = (BitVec.ofNat 8 (rotated op v.toNat cy.toNat), shiftedOut op v.toNat) := by
  cases op with
  | rlc => rw [rotate8, shiftLeft_or_bit8, toNat_getLsbD_seven, getLsbD_seven, rotated, shiftedOut]
  | rrc => rw [rotate8, shiftRight_or_bit8, toNat_getLsbD_zero, getLsbD_zero, rotated, shiftedOut]
  | rl => rw [rotate8, shiftLeft_or_bit8, getLsbD_seven, rotated, shiftedOut]
  | rr => rw [rotate8, shiftRight_or_bit8, getLsbD_zero, rotated, shiftedOut]
  | sla =>
    have h := shiftLeft_or_bit8 v false
    rw [show bit8 false = 0#8 from rfl, BitVec.or_zero] at h
    rw [rotate8, h, getLsbD_seven, rotated, shiftedOut, Bool.toNat_false, Nat.add_zero]
  | sra =>
    rw [rotate8, and_0x80_eq_bit8, shiftRight_or_bit8, toNat_getLsbD_seven, getLsbD_zero, rotated, shiftedOut]
  | swap => rw [rotate8, swapNibbles_eq, rotated, shiftedOut]
  | srl =>
    have h := shiftRight_or_bit8 v false
    rw [show bit8 false <<< 7 = 0#8 from rfl, BitVec.or_zero] at h
    rw [rotate8, h, getLsbD_zero, rotated, shiftedOut, Bool.toNat_false, Nat.mul_zero, Nat.add_zero]

/-- The flags of a rotate, shift or SWAP of the `0xCB` page: the zero test of the result and the bit moved out. -/
theorem rot8_eq (op : RotOp) (v : Byte) (cy : Bool) :
    rot8 op v cy =
      { value := BitVec.ofNat 8 (rotated op v.toNat cy.toNat)
        z := decide (BitVec.ofNat 8 (rotated op v.toNat cy.toNat) = 0), n := false, h := false
        cy := shiftedOut op v.toNat } := by
  rw [rot8, rotate8_eq, beq_eq_decide]

/-- An accumulator rotate in arithmetic, with Z, N and H cleared (R301 to R304). -/
theorem rotateA_eq (op : RotOp) (s : State) :
    rotateA op s = .next { s with regs := { s.regs with
      a := BitVec.ofNat 8 (rotated op s.regs.a.toNat (getFlag s.regs.f .cy).toNat)
      f := withFlags s.regs.f false false false (shiftedOut op s.regs.a.toNat) } } := by
  rw [rotateA, rotA8, State.flag, rotate8_eq]
  rfl

/-! ## The bytes of the `0xCB` page -/

/-- A byte is made of its three fields (R122). -/
theorem fields_opByte {x y z : Nat} (hx : x < 4) (hy : y < 8) (hz : z < 8) :
    fieldX (opByte x y z) = x ∧ fieldY (opByte x y z) = y ∧ fieldZ (opByte x y z) = z := by
  rw [fieldX, fieldY, fieldZ, opByte, BitVec.toNat_ofNat]
  omega

theorem index_lt_of_src8 (src : Src8) : src.index < 8 := by
  rcases src with (_ | _ | _ | _ | _ | _ | _) | _ <;> decide

theorem index_lt_of_rotOp (op : RotOp) : op.index < 8 := by
  cases op <;> decide

theorem index_lt_of_ix8 (b : Ix8) : b.index < 8 := by
  cases b <;> decide

theorem index_eq_six_iff {src : Src8} : src.index = 6 ↔ src = .atHL := by
  rcases src with (_ | _ | _ | _ | _ | _ | _) | _ <;> decide

theorem r8Table_index (src : Src8) : r8Table src.index = src := by
  rcases src with (_ | _ | _ | _ | _ | _ | _) | _ <;> rfl

theorem rotTable_index (op : RotOp) : rotTable op.index = op := by
  cases op <;> rfl

theorem ix8_index (b : Ix8) : ix8 b.index = b := by
  cases b <;> rfl

/-- The cycles of an instruction of the page: a register form takes 8, the `(HL)` form 12 for BIT, which stores
nothing, and 16 for the others (R470). -/
theorem cyclesCB_opByte {x y : Nat} (src : Src8) (hx : x < 4) (hy : y < 8) :
    cyclesCB (opByte x y src.index) = if src = .atHL then (if x = 1 then 12 else 16) else 8 := by
  obtain ⟨fx, -, fz⟩ := fields_opByte hx hy (index_lt_of_src8 src)
  simp only [cyclesCB, fx, fz, index_eq_six_iff]

theorem decode_rotSrc (op : RotOp) (src : Src8) :
    decode [0xCB, opByte 0 op.index src.index] = .ok (.rotSrc op src) 2 (if src = .atHL then 16 else 8) := by
  have hy := index_lt_of_rotOp op
  obtain ⟨fx, fy, fz⟩ := fields_opByte (x := 0) (by decide) hy (index_lt_of_src8 src)
  simp [decode, cyclesCB_opByte src _ hy, decodeCB, fx, fy, fz, rotTable_index, r8Table_index]

theorem decode_bitSrc (b : Ix8) (src : Src8) :
    decode [0xCB, opByte 1 b.index src.index] = .ok (.bitSrc b src) 2 (if src = .atHL then 12 else 8) := by
  have hy := index_lt_of_ix8 b
  obtain ⟨fx, fy, fz⟩ := fields_opByte (x := 1) (by decide) hy (index_lt_of_src8 src)
  simp [decode, cyclesCB_opByte src _ hy, decodeCB, fx, fy, fz, ix8_index, r8Table_index]

theorem decode_resSrc (b : Ix8) (src : Src8) :
    decode [0xCB, opByte 2 b.index src.index] = .ok (.resSrc b src) 2 (if src = .atHL then 16 else 8) := by
  have hy := index_lt_of_ix8 b
  obtain ⟨fx, fy, fz⟩ := fields_opByte (x := 2) (by decide) hy (index_lt_of_src8 src)
  simp [decode, cyclesCB_opByte src _ hy, decodeCB, fx, fy, fz, ix8_index, r8Table_index]

theorem decode_setSrc (b : Ix8) (src : Src8) :
    decode [0xCB, opByte 3 b.index src.index] = .ok (.setSrc b src) 2 (if src = .atHL then 16 else 8) := by
  have hy := index_lt_of_ix8 b
  obtain ⟨fx, fy, fz⟩ := fields_opByte (x := 3) (by decide) hy (index_lt_of_src8 src)
  simp [decode, cyclesCB_opByte src _ hy, decodeCB, fx, fy, fz, ix8_index, r8Table_index]

/-! ## BIT, RES and SET by their operand -/

theorem testBit_next {b : Ix8} {src : Src8} {s t : State} :
    testBit b src s = .next t ↔
      ∃ v, readSrc s src = .ok v ∧ t = s.setFlags (!v.getLsbD b.index) false true (getFlag s.regs.f .cy) := by
  unfold testBit
  cases readSrc s src <;> simp [eq_comm, State.flag]

/-- BIT is fatal exactly where the read of its operand is (R313). -/
theorem testBit_fault {b : Ix8} {src : Src8} {s : State} {e : Fault} :
    testBit b src s = .fault e ↔ readSrc s src = .error e := by
  unfold testBit
  cases readSrc s src <;> simp

/-- A replacement of an operand is fatal where its read is, or where the write after it is. -/
theorem replaceOperand_fault {src : Src8} {f : Byte → Byte} {s : State} {e : Fault} :
    replaceOperand src f s = .fault e ↔
      readSrc s src = .error e ∨ ∃ v, readSrc s src = .ok v ∧ writeSrc s src (f v) = .error e := by
  unfold replaceOperand
  cases readSrc s src <;> simp [done_fault]

/-- A replacement of a register always completes, with that register written and nothing else changed. -/
theorem replaceOperand_reg (r : R8) (f : Byte → Byte) (s : State) :
    replaceOperand (.reg r) f s = .next { s with regs := s.regs.set r (f (s.regs.get r)) } :=
  replaceOperand_next.mpr ⟨s.regs.get r, rfl, rfl⟩

/-- An instruction that replaces the operand at HL is one read and one write there, with F as it was (R314, R315). -/
theorem rewritesByte_of_replaceOperand {i : Instr} {s : State} {f : Byte → Byte}
    (h : exec i s = replaceOperand .atHL f s) : RewritesByte i s f (fun _ => s.regs.f) := by
  rw [RewritesByte, h]
  refine ⟨fun v t hv ht => ?_, fun e he => replaceOperand_fault.mpr (.inl he),
    fun v e hv he => replaceOperand_fault.mpr (.inr ⟨v, hv, he⟩)⟩
  rw [← busWrite_regs ht]
  exact replaceOperand_next.mpr ⟨v, hv, ht⟩

/-! ## The obligations -/

/-- Every operation of the page, RLC included, is the shared rewrite of an operand by `rot8`. -/
theorem rotatesOperand (op : RotOp) (s : State) : RotatesOperand op s := by
  have hreg (r : R8) := (exec_rotSrc op (.reg r) s).trans (modifyOperand_reg r _ s)
  have hmem := rewritesByte_of_modifyOperand (exec_rotSrc op .atHL s)
  simp only [rot8_eq] at hreg hmem
  exact ⟨fun r => ⟨decode_rotSrc op (.reg r), hreg r⟩, decode_rotSrc op .atHL, hmem⟩

/-- Settles O23: the four are one rotate of A. -/
theorem accumulatorRotates : Obligations.AccumulatorRotates := by
  unfold Obligations.AccumulatorRotates
  intro s after
  exact ⟨rfl, rotateA_eq .rlc s, rfl, rotateA_eq .rrc s, rfl, rotateA_eq .rl s, rfl, rotateA_eq .rr s⟩

/-- Settles O24: the law of the page holds of every operation. -/
theorem rotatesAndShiftsOfThePrefixPage : Obligations.RotatesAndShiftsOfThePrefixPage := by
  unfold Obligations.RotatesAndShiftsOfThePrefixPage
  exact fun op s _ => rotatesOperand op s

/-- Settles O26: BIT is one read of its operand, RES and SET are one replacement of it without flags. -/
theorem bitTestResetAndSet : Obligations.BitTestResetAndSet := by
  unfold Obligations.BitTestResetAndSet
  intro b r s hl tested cleared made
  refine ⟨decode_bitSrc b (.reg r), decode_bitSrc b .atHL, ?bitReg, fun v hv => ?bitHL, fun e he => ?bitFatal,
    decode_resSrc b (.reg r), decode_resSrc b .atHL, ?resReg, rewritesByte_of_replaceOperand (exec_resSrc b .atHL s),
    decode_setSrc b (.reg r), decode_setSrc b .atHL, ?setReg, rewritesByte_of_replaceOperand (exec_setSrc b .atHL s)⟩
  case bitReg => exact (exec_bitSrc b (.reg r) s).trans (testBit_next.mpr ⟨_, rfl, rfl⟩)
  case bitHL => exact (exec_bitSrc b .atHL s).trans (testBit_next.mpr ⟨v, hv, rfl⟩)
  case bitFatal => exact (exec_bitSrc b .atHL s).trans (testBit_fault.mpr he)
  case resReg => exact (exec_resSrc b (.reg r) s).trans (replaceOperand_reg r _ s)
  case setReg => exact (exec_setSrc b (.reg r) s).trans (replaceOperand_reg r _ s)

end Sys2Proof.Machine
end

section
/-! PROOFS. The jumps and the returns, taken and not taken (spec/44_control.md R340 to R345, R348, R349, R352). -/

namespace Sys2Proof.Machine

/-! ## The targets of the jumps and the bytes of the conditional forms -/

/-- A displacement byte is sign-extended: its signed value modulo 65536 (R10). -/
theorem sext16_eq (e : Byte) : sext16 e = BitVec.ofInt 16 e.toInt := rfl

/-- The target of a relative jump in exact integers, modulo 65536 (R340). -/
theorem relTarget_eq (pc : Word) (e : Byte) : relTarget pc e = BitVec.ofInt 16 ((pc.toNat : Int) + e.toInt) := by
  rw [BitVec.ofInt_add, BitVec.ofInt_natCast, BitVec.ofNat_toNat, BitVec.setWidth_eq, relTarget, sext16_eq]

theorem decode_jpCond (cc : Cond) (lo hi : Byte) :
    decode [opByte 3 cc.index 2, lo, hi] = .ok (.jpCond cc (ofBytes hi lo)) 3 12 := by
  cases cc <;> rfl

theorem decode_jrCond (cc : Cond) (e : Byte) :
    decode [opByte 0 (4 + cc.index) 0, e] = .ok (.jrCond cc e) 2 8 := by
  cases cc <;> rfl

theorem decode_retCond (cc : Cond) : decode [opByte 3 cc.index 0] = .ok (.retCond cc) 1 8 := by
  cases cc <;> rfl

/-! ## Where a return is fatal, and the conditional return -/

/-- A return ends in a fault exactly where its pop does (R348). -/
theorem returnFromCall_error {s : State} {e : Fault} : returnFromCall s = .error e ↔ pop16 s = .error e := by
  unfold returnFromCall
  cases pop16 s <;> simp

/-- The return from an interrupt ends in a fault exactly where its pop does (R352). -/
theorem returnFromInterrupt_error {s : State} {e : Fault} :
    returnFromInterrupt s = .error e ↔ pop16 s = .error e := by
  rw [← returnFromCall_error, returnFromInterrupt]
  cases returnFromCall s <;> simp

/-- A taken conditional return that answers a state is the return, with 12 cycles more (R349). -/
theorem retIf_next {cc : Cond} {s t : State} (h : s.cond cc = true) :
    retIf cc s = .next t ↔ ∃ u, returnFromCall s = .ok u ∧ t = u.charge 12 := by
  rw [retIf, if_pos h]
  cases returnFromCall s <;> simp [eq_comm]

theorem retIf_fault {cc : Cond} {s : State} {e : Fault} (h : s.cond cc = true) :
    retIf cc s = .fault e ↔ returnFromCall s = .error e := by
  rw [retIf, if_pos h]
  cases returnFromCall s <;> simp

theorem retIf_not_taken {cc : Cond} {s : State} (h : s.cond cc = false) : retIf cc s = .next s := by
  simp [retIf, h]

/-! ## The obligations -/

/-- Settles O9: RET, RETI and a taken RET cc are one return, so each ends as its pop does. -/
theorem returns : Obligations.Returns := by
  unfold Obligations.Returns
  intro cc s
  rw [exec_ret, exec_reti, exec_retCond]
  refine ⟨rfl, rfl, decode_retCond cc, fun t v hp => ?popped, fun e he => ?fatal, retIf_not_taken⟩
  case popped =>
    have hret : returnFromCall s = .ok (t.setPC v) := returnFromCall_ok.mpr ⟨t, v, hp, rfl⟩
    exact ⟨done_next.mpr hret, done_next.mpr (returnFromInterrupt_ok.mpr ⟨t, v, hp, rfl⟩),
      fun hc => (retIf_next hc).mpr ⟨_, hret, rfl⟩⟩
  case fatal =>
    exact ⟨done_fault.mpr (returnFromCall_error.mpr he), done_fault.mpr (returnFromInterrupt_error.mpr he),
      fun hc => (retIf_fault hc).mpr (returnFromCall_error.mpr he)⟩

/-- Settles O28: the relative target is the exact sum modulo 65536, and each conditional form is one `jumpIf`. -/
theorem jumps : Obligations.Jumps := by
  unfold Obligations.Jumps
  intro cc lo hi e s nn target taken
  have htarget : relTarget s.pc e = target := relTarget_eq s.pc e
  have hif (dest : Word) : jumpIf cc dest s = .next (if s.cond cc then taken dest else s) := rfl
  rw [exec_jpNN, exec_jpCond, exec_jpHL, exec_jrRel, exec_jrCond, htarget]
  exact ⟨rfl, rfl, decode_jpCond cc lo hi, hif nn, rfl, rfl, rfl, rfl, decode_jrCond cc e, hif target⟩

end Sys2Proof.Machine
end

section
/-! PROOFS. NOP, DI and the undefined opcodes, with the step that fetches one (spec/45_system.md R370, R373, R375;
spec/30_encoding.md R120, R121, R133; spec/60_exceptions.md R420). -/

namespace Sys2Proof.Machine

/-! ## NOP and DI -/

theorem disableInterrupts_eiDelay_false {s : State} (h : s.params.eiDelay = false) :
    disableInterrupts s = .next { s with ime := false } := by
  simp [disableInterrupts, h]

theorem disableInterrupts_eiDelay_true {s : State} (h : s.params.eiDelay = true) :
    disableInterrupts s = .next { s with ime := false, eiPending := false } := by
  simp [disableInterrupts, h]

/-- Settles O29: NOP is the identity, and DI is one update in which EI_DELAY picks the new EI_pending. -/
theorem nopAndDisableInterrupts : Obligations.NopAndDisableInterrupts := by
  unfold Obligations.NopAndDisableInterrupts
  intro s
  rw [exec_di]
  exact ⟨rfl, exec_nop s, rfl, disableInterrupts_eiDelay_false, disableInterrupts_eiDelay_true⟩

/-! ## A step that fetches a one-byte instruction -/

/-- The first byte of an instruction is never past the end of the address space (R121). -/
theorem fetchByte_zero (s : State) (addr : Word) : fetchByte s addr 0 = busRead s addr := by
  have hin : addr.toNat + 0 ≤ 0xFFFF := Nat.le_of_lt_succ addr.isLt
  rw [fetchByte, if_pos hin, BitVec.add_zero]

/-- An opcode of length one is fetched by one bus read (R120, R121). -/
theorem fetch_of_opLength_one {s : State} {addr : Word} {op : Byte} (hr : busRead s addr = .ok op)
    (hl : opLength op = 1) : fetch s addr = .ok [op] := by
  simp [fetch, fetchByte_zero, hr, hl, fetchFrom]

theorem decodeAt_of_fetch {s : State} {addr : Word} {bytes : List Byte} {i : Instr} {size cycles : Nat}
    (hf : fetch s addr = .ok bytes) (hd : decode bytes = .ok i size cycles) :
    decodeAt s addr = .ok { instr := i, size := size, cycles := cycles } := by
  simp [decodeAt, hf, hd]

/-- A running step whose instruction faults ends in that fault (R400, R420). -/
theorem step_fault_of_exec {s : State} {f : Fetched} {e : Fault} (hh : s.halted = false)
    (hd : decodeAt (beginStep s) s.pc = .ok f) (he : exec f.instr (advance (beginStep s) f) = .fault e) :
    step s = .fault e := by
  simp [step, stepWith, hh, hd, he]

/-! ## The undefined opcodes -/

/-- The undefined opcodes as instructions, each with its byte (R133). -/
def undefinedOpcodes : List (Instr × Byte) :=
  [(.undefD3, 0xD3), (.undefDB, 0xDB), (.undefDD, 0xDD), (.undefE3, 0xE3), (.undefE4, 0xE4), (.undefEB, 0xEB),
    (.undefEC, 0xEC), (.undefED, 0xED), (.undefF4, 0xF4), (.undefFC, 0xFC), (.undefFD, 0xFD)]

/-- The list holds the undefined opcodes and no other instruction. -/
theorem mem_undefinedOpcodes {i : Instr} {op : Byte} : (i, op) ∈ undefinedOpcodes ↔ i.undefinedByte = some op := by
  constructor
  · have hall : ∀ p ∈ undefinedOpcodes, p.1.undefinedByte = some p.2 := by decide
    exact hall (i, op)
  · intro h
    cases i <;> simp only [Instr.undefinedByte, reduceCtorEq, Option.some.injEq] at h <;> subst h <;> decide

theorem exists_undefinedByte {op : Byte} :
    (∃ i : Instr, i.undefinedByte = some op) ↔ op ∈ undefinedOpcodes.map Prod.snd := by
  simp [← mem_undefinedOpcodes]

/-- An undefined opcode is its own one byte, and has no cycles (R120, R133). -/
theorem decode_undefined {i : Instr} {op : Byte} (h : i.undefinedByte = some op) :
    opLength op = 1 ∧ decode [op] = .ok i 1 0 := by
  have hall : ∀ p ∈ undefinedOpcodes, opLength p.2 = 1 ∧ decode [p.2] = .ok p.1 1 0 := by decide
  exact hall _ (mem_undefinedOpcodes.mpr h)

/-- Settles O31: the byte is fetched by one read and decodes to the instruction whose execution is the fault. -/
theorem undefinedOpcodesAreFatal : Obligations.UndefinedOpcodesAreFatal := by
  unfold Obligations.UndefinedOpcodesAreFatal
  refine ⟨fun op => exists_undefinedByte, fun i op s h => ?_⟩
  obtain ⟨hlen, hdec⟩ := decode_undefined h
  refine ⟨hdec, exec_undefined h s, fun hrun hread => ?_⟩
  have hfetch : fetch (beginStep s) s.pc = .ok [op] :=
    fetch_of_opLength_one ((busRead_beginStep s s.pc).trans hread) hlen
  exact step_fault_of_exec hrun (decodeAt_of_fetch hfetch hdec) (exec_undefined h _)

end Sys2Proof.Machine
end

section
/-! PROOFS. The cycles of a step (spec/70_reset_and_hazards.md R470; spec/10_state.md R42; spec/20_memory.md R92;
spec/30_encoding.md R138; spec/60_exceptions.md R410, R423): what executing an instruction adds, by its extra cycles
and its stores, and what the end of the step adds. -/

namespace Sys2Proof.Machine

/-! ## What an execution adds to the counts -/

/-- The counts of a state with `extra` instruction cycles more and the DMA cycles of the stores (R92, R138). -/
def State.charged (s : State) (extra : Nat) (stores : List (Word × Byte)) : Cycles :=
  { instruction := s.cycles.instruction + extra
    dma := s.cycles.dma + s.params.dmaCycles * dmaStarts stores
    dispatch := s.cycles.dispatch }

/-- If the outcome of an operation on `s` is a state, its counts are those of `s` with this charged. -/
def Charges (s : State) (r : Out) (extra : Nat) (stores : List (Word × Byte)) : Prop :=
  ∀ t, r = .next t → t.cycles = s.charged extra stores

/-- Executing the instruction charges its extra cycles and the DMAs of its stores. -/
def ChargesItsCost (i : Instr) : Prop :=
  ∀ s, Charges s (exec i s) (s.takenExtra i) (s.stores i)

/-- An operation that leaves the counts charges nothing. -/
theorem charges_of_cycles_eq {s : State} {r : Out} (h : ∀ t, r = .next t → t.cycles = s.cycles) : Charges s r 0 [] :=
  h

theorem charges_next {s t : State} (h : t.cycles = s.cycles) : Charges s (.next t) 0 [] :=
  charges_of_cycles_eq fun _ ht => by cases ht; exact h

theorem charges_fault (s : State) (e : Fault) (extra : Nat) (stores : List (Word × Byte)) :
    Charges s (.fault e) extra stores := fun _ h => nomatch h

theorem charge_cycles_of_charged {s u : State} {stores : List (Word × Byte)} (h : u.cycles = s.charged 0 stores)
    (extra : Nat) : (u.charge extra).cycles = s.charged extra stores := by
  rw [State.charge_cycles, h]
  simp [State.charged]

/-! ## The operations that store -/

theorem storeAll_cycles {l : List (Word × Byte)} {s t : State} (h : storeAll s l = .ok t) :
    t.cycles = s.charged 0 l := by
  have hrest : t.cycles.instruction = s.cycles.instruction ∧ t.cycles.dispatch = s.cycles.dispatch := by
    induction l generalizing s with
    | nil => cases h; exact ⟨rfl, rfl⟩
    | cons p rest ih =>
      simp only [storeAll] at h
      cases hb : busWrite s p.1 p.2 with
      | error e => rw [hb] at h; cases h
      | ok u =>
        rw [hb] at h
        rw [← busWrite_instruction hb, ← busWrite_dispatch hb]
        exact ih h
  obtain ⟨hinstruction, hdispatch⟩ := hrest
  obtain ⟨hdma, -⟩ := storeAll_dma h
  calc t.cycles = ⟨t.cycles.instruction, t.cycles.dma, t.cycles.dispatch⟩ := rfl
    _ = s.charged 0 l := by rw [hinstruction, hdma, hdispatch]; rfl

theorem busWrite_cycles {s t : State} {a : Word} {v : Byte} (h : busWrite s a v = .ok t) :
    t.cycles = s.charged 0 [(a, v)] :=
  storeAll_cycles (by simp [storeAll, h])

theorem ldMemReg_charges (addr : Word) (src : R8) (s : State) :
    Charges s (ldMemReg addr src s) 0 [(addr, s.regs.get src)] :=
  fun _ h => busWrite_cycles (ldMemReg_next.mp h)

theorem ldMemImm_charges (addr : Word) (n : Byte) (s : State) : Charges s (ldMemImm addr n s) 0 [(addr, n)] :=
  fun _ h => busWrite_cycles (done_next.mp h)

theorem ldMemHLA_charges (step : Word) (s : State) : Charges s (ldMemHLA step s) 0 [(s.regs.hl, s.regs.a)] := by
  intro t h
  obtain ⟨u, hu, rfl⟩ := ldMemHLA_next.mp h
  exact (busWrite_cycles hu :)

theorem ldMemSP_charges (nn : Word) (s : State) :
    Charges s (ldMemSP nn s) 0 [(nn, loByte s.sp), (nn + 1, hiByte s.sp)] := by
  intro t h
  unfold ldMemSP at h
  cases hb : busWrite s nn (loByte s.sp) with
  | error e => rw [hb] at h; cases h
  | ok u =>
    rw [hb] at h
    have hu : busWrite u (nn + 1) (hiByte s.sp) = .ok t := done_next.mp h
    exact storeAll_cycles (by simp only [storeAll, hb, hu])

theorem pushPair_charges (rr : Rp2) (s : State) : Charges s (pushPair rr s) 0 (s.pushed (s.getRp2 rr)) :=
  fun _ h => (push16_cycles (done_next.mp h)).1

theorem callTo_cycles {target : Word} {s t : State} (h : callTo target s = .ok t) :
    t.cycles = s.charged 0 (s.pushed s.pc) := by
  obtain ⟨u, hu, rfl⟩ := callTo_ok.mp h
  exact (push16_cycles hu).1

theorem callIf_charges (cc : Cond) (target : Word) (s : State) :
    Charges s (callIf cc target s) (if s.cond cc then 12 else 0) (if s.cond cc then s.pushed s.pc else []) := by
  cases hc : s.cond cc with
  | false => rw [callIf_not_taken hc]; exact charges_next rfl
  | true =>
    intro t h
    obtain ⟨u, hu, rfl⟩ := (callIf_next hc).mp h
    exact charge_cycles_of_charged (callTo_cycles hu) 12

/-! ## The operations that rewrite an operand -/

/-- What rewriting an operand stores: nothing for a register, the new byte at HL for `(HL)` (R12). -/
def State.operandStore (s : State) (src : Src8) (new : Byte → Byte) : List (Word × Byte) :=
  match src with
  | .reg _ => []
  | .atHL => [(s.regs.hl, new (s.byteAt s.regs.hl))]

theorem writeSrc_cycles {s t : State} {src : Src8} {new : Byte → Byte} {v : Byte} (hr : readSrc s src = .ok v)
    (hw : writeSrc s src (new v) = .ok t) : t.cycles = s.charged 0 (s.operandStore src new) := by
  cases src with
  | reg r => cases hw; rfl
  | atHL =>
    have hv : s.byteAt s.regs.hl = v := by rw [State.byteAt, show busRead s s.regs.hl = .ok v from hr]
    rw [State.operandStore, hv]
    exact busWrite_cycles hw

theorem modifyOperand_charges (src : Src8) (f : Byte → Result8) (s : State) :
    Charges s (modifyOperand src f s) 0 (s.operandStore src fun v => (f v).value) := by
  intro t h
  obtain ⟨v, u, hr, hw, rfl⟩ := modifyOperand_next.mp h
  exact (writeSrc_cycles (new := fun v => (f v).value) hr hw :)

theorem replaceOperand_charges (src : Src8) (f : Byte → Byte) (s : State) :
    Charges s (replaceOperand src f s) 0 (s.operandStore src f) := by
  intro t h
  obtain ⟨v, hr, hw⟩ := replaceOperand_next.mp h
  exact writeSrc_cycles hr hw

/-! ## The operations that store nothing -/

theorem ldRegMem_charges (dst : R8) (addr : Word) (s : State) : Charges s (ldRegMem dst addr s) 0 [] := by
  refine charges_of_cycles_eq fun t h => ?_
  obtain ⟨v, -, rfl⟩ := ldRegMem_next.mp h
  rfl

theorem ldAMemHL_charges (step : Word) (s : State) : Charges s (ldAMemHL step s) 0 [] := by
  unfold ldAMemHL
  cases busRead s s.regs.hl with
  | error e => exact charges_fault s e 0 []
  | ok v => exact charges_next rfl

theorem aluState_cycles (op : AluOp) (b : Byte) (s : State) : (aluState op b s).cycles = s.cycles := by
  cases op <;> rfl

theorem aluWith_charges (op : AluOp) (src : Src8) (s : State) : Charges s (aluWith op src s) 0 [] := by
  refine charges_of_cycles_eq fun t h => ?_
  obtain ⟨b, -, rfl⟩ := aluWith_next.mp h
  exact aluState_cycles op b s

theorem testBit_charges (b : Ix8) (src : Src8) (s : State) : Charges s (testBit b src s) 0 [] := by
  refine charges_of_cycles_eq fun t h => ?_
  obtain ⟨v, -, rfl⟩ := testBit_next.mp h
  rfl

theorem pop16_cycles {s t : State} {v : Word} (h : pop16 s = .ok (t, v)) : t.cycles = s.cycles := by
  obtain ⟨lo, hi, -, -, rfl, -⟩ := pop16_ok.mp h
  rfl

theorem popPair_charges (rr : Rp2) (s : State) : Charges s (popPair rr s) 0 [] := by
  unfold popPair
  cases hp : pop16 s with
  | error e => exact charges_fault s e 0 []
  | ok p => exact charges_next ((State.setRp2_cycles _ rr _).trans (pop16_cycles hp))

theorem returnFromCall_cycles {s t : State} (h : returnFromCall s = .ok t) : t.cycles = s.cycles := by
  obtain ⟨u, v, hp, rfl⟩ := returnFromCall_ok.mp h
  exact (pop16_cycles hp :)

theorem returnFromInterrupt_cycles {s t : State} (h : returnFromInterrupt s = .ok t) : t.cycles = s.cycles := by
  obtain ⟨u, v, hp, rfl⟩ := returnFromInterrupt_ok.mp h
  exact (pop16_cycles hp :)

theorem retIf_charges (cc : Cond) (s : State) : Charges s (retIf cc s) (if s.cond cc then 12 else 0) [] := by
  cases hc : s.cond cc with
  | false => rw [retIf_not_taken hc]; exact charges_next rfl
  | true =>
    intro t h
    obtain ⟨u, hu, rfl⟩ := (retIf_next hc).mp h
    exact charge_cycles_of_charged (returnFromCall_cycles hu) 12

theorem jumpIf_charges (cc : Cond) (target : Word) (s : State) :
    Charges s (jumpIf cc target s) (if s.cond cc then 4 else 0) [] := by
  intro t h
  cases h
  cases s.cond cc <;> rfl

/-! ## What the instructions of a family cost -/

/-- The extra cycles of an instruction and the bytes it stores, together. -/
abbrev State.Costs (s : State) (i : Instr) (extra : Nat) (stores : List (Word × Byte)) : Prop :=
  s.takenExtra i = extra ∧ s.stores i = stores

theorem costs_incSrc (s : State) (src : Src8) : s.Costs (.incSrc src) 0 (s.operandStore src (· + 1)) := by
  rcases src with (_ | _ | _ | _ | _ | _ | _) | _ <;> exact ⟨rfl, rfl⟩

theorem costs_decSrc (s : State) (src : Src8) : s.Costs (.decSrc src) 0 (s.operandStore src (· - 1)) := by
  rcases src with (_ | _ | _ | _ | _ | _ | _) | _ <;> exact ⟨rfl, rfl⟩

theorem costs_aluSrc (s : State) (op : AluOp) (src : Src8) : s.Costs (.aluSrc op src) 0 [] := by
  cases op <;> rcases src with (_ | _ | _ | _ | _ | _ | _) | _ <;> exact ⟨rfl, rfl⟩

theorem costs_rotSrc (s : State) (op : RotOp) (src : Src8) :
    s.Costs (.rotSrc op src) 0 (s.operandStore src fun v => (rotate8 op v (s.flag .cy)).1) := by
  cases op <;> rcases src with (_ | _ | _ | _ | _ | _ | _) | _ <;> exact ⟨rfl, rfl⟩

theorem costs_bitSrc (s : State) (b : Ix8) (src : Src8) : s.Costs (.bitSrc b src) 0 [] := by
  cases b <;> rcases src with (_ | _ | _ | _ | _ | _ | _) | _ <;> exact ⟨rfl, rfl⟩

theorem costs_resSrc (s : State) (b : Ix8) (src : Src8) :
    s.Costs (.resSrc b src) 0 (s.operandStore src (clearBit8 b)) := by
  cases b <;> rcases src with (_ | _ | _ | _ | _ | _ | _) | _ <;> exact ⟨rfl, rfl⟩

theorem costs_setSrc (s : State) (b : Ix8) (src : Src8) :
    s.Costs (.setSrc b src) 0 (s.operandStore src (setBit8 b)) := by
  cases b <;> rcases src with (_ | _ | _ | _ | _ | _ | _) | _ <;> exact ⟨rfl, rfl⟩

/-! ## Every instruction charges its cost -/

/-- An instruction charges its cost where its meaning is an operation that charges just that. -/
theorem chargesItsCost_of {i : Instr} {op : State → Out} {extra : State → Nat}
    {stores : State → List (Word × Byte)} (hexec : ∀ s, exec i s = op s)
    (hcost : ∀ s : State, s.Costs i (extra s) (stores s)) (h : ∀ s, Charges s (op s) (extra s) (stores s)) : ChargesItsCost i := by
  intro s
  rw [hexec s, (hcost s).1, (hcost s).2]
  exact h s

theorem rotSrc_chargesItsCost (op : RotOp) (src : Src8) : ChargesItsCost (.rotSrc op src) :=
  chargesItsCost_of (exec_rotSrc op src) (costs_rotSrc · op src) (fun s => modifyOperand_charges src _ s)

theorem bitSrc_chargesItsCost (b : Ix8) (src : Src8) : ChargesItsCost (.bitSrc b src) :=
  chargesItsCost_of (exec_bitSrc b src) (costs_bitSrc · b src) (testBit_charges b src)

theorem resSrc_chargesItsCost (b : Ix8) (src : Src8) : ChargesItsCost (.resSrc b src) :=
  chargesItsCost_of (exec_resSrc b src) (costs_resSrc · b src) (replaceOperand_charges src (clearBit8 b))

theorem setSrc_chargesItsCost (b : Ix8) (src : Src8) : ChargesItsCost (.setSrc b src) :=
  chargesItsCost_of (exec_setSrc b src) (costs_setSrc · b src) (replaceOperand_charges src (setBit8 b))

/-- The pair `0xCB`, second byte means what the instruction of the `0xCB` page that the byte selects means (R376). -/
theorem exec_prefixCB_eq_decodeCB (second : Byte) (s : State) :
    exec (.prefixCB second) s = exec (decodeCB second) s := by
  rw [exec_prefixCB]
  unfold cbPage decodeCB
  generalize fieldX second = x
  match x with
  | 0 => exact (exec_rotSrc (rotTable (fieldY second)) (r8Table (fieldZ second)) s).symm
  | 1 => exact (exec_bitSrc (ix8 (fieldY second)) (r8Table (fieldZ second)) s).symm
  | 2 => exact (exec_resSrc (ix8 (fieldY second)) (r8Table (fieldZ second)) s).symm
  | _ + 3 => exact (exec_setSrc (ix8 (fieldY second)) (r8Table (fieldZ second)) s).symm

/-- The store of an instruction that reads and rewrites the byte at HL. -/
def State.rewriteStore (s : State) (i : Instr) : List (Word × Byte) :=
  match rewritten (s.flag .cy) (s.byteAt s.regs.hl) i with
  | some w => [(s.regs.hl, w)]
  | none => []

/-- A property of the instruction a second byte selects, from the property for each family of its page (R131). -/
theorem decodeCB_byFamily {P : Instr → Prop} (rotSrc : ∀ op src, P (.rotSrc op src))
    (bitSrc : ∀ b src, P (.bitSrc b src)) (resSrc : ∀ b src, P (.resSrc b src))
    (setSrc : ∀ b src, P (.setSrc b src)) (second : Byte) : P (decodeCB second) := by
  unfold decodeCB
  split
  · exact rotSrc _ _
  · exact bitSrc _ _
  · exact resSrc _ _
  · exact setSrc _ _

theorem costs_prefixCB (s : State) (second : Byte) :
    s.Costs (.prefixCB second) (s.takenExtra (decodeCB second)) (s.stores (decodeCB second)) := by
  change 0 = s.takenExtra (decodeCB second) ∧ s.rewriteStore (decodeCB second) = s.stores (decodeCB second)
  refine decodeCB_byFamily (P := fun i => 0 = s.takenExtra i ∧ s.rewriteStore i = s.stores i)
    (fun op src => ?rotSrc) (fun b src => ?bitSrc) (fun b src => ?resSrc) (fun b src => ?setSrc) second
  case rotSrc => cases op <;> rcases src with (_ | _ | _ | _ | _ | _ | _) | _ <;> exact ⟨rfl, rfl⟩
  case bitSrc => cases b <;> rcases src with (_ | _ | _ | _ | _ | _ | _) | _ <;> exact ⟨rfl, rfl⟩
  case resSrc => cases b <;> rcases src with (_ | _ | _ | _ | _ | _ | _) | _ <;> exact ⟨rfl, rfl⟩
  case setSrc => cases b <;> rcases src with (_ | _ | _ | _ | _ | _ | _) | _ <;> exact ⟨rfl, rfl⟩

/-- Executing any instruction charges its extra cycles and the DMAs of its stores (R92, R138, R470). -/
theorem chargesItsCost (i : Instr) : ChargesItsCost i := by
  induction i using Instr.byFamily with
  | nop => exact fun s => charges_next rfl
  | ldMNNSP nn => exact ldMemSP_charges nn
  | stop n => exact fun s => charges_fault s _ _ _
  | jrRel e => exact fun s => charges_next rfl
  | jrCond cc e =>
    exact chargesItsCost_of (exec_jrCond cc e) (fun _ => by cases cc <;> exact ⟨rfl, rfl⟩)
      (fun s => jumpIf_charges cc (relTarget s.pc e) s)
  | ldRpNN rr nn =>
    exact chargesItsCost_of (exec_ldRpNN rr nn) (fun _ => by cases rr <;> exact ⟨rfl, rfl⟩)
      (fun s => charges_next (s.setRp_cycles rr nn))
  | addHLRp rr =>
    exact chargesItsCost_of (exec_addHLRp rr) (fun _ => by cases rr <;> exact ⟨rfl, rfl⟩)
      (fun s => charges_next rfl)
  | ldMBCA => exact fun s => ldMemReg_charges s.regs.bc .a s
  | ldMDEA => exact fun s => ldMemReg_charges s.regs.de .a s
  | ldMHLIncA => exact ldMemHLA_charges 1
  | ldMHLDecA => exact ldMemHLA_charges (-1)
  | ldAMBC => exact fun s => ldRegMem_charges .a s.regs.bc s
  | ldAMDE => exact fun s => ldRegMem_charges .a s.regs.de s
  | ldAMHLInc => exact ldAMemHL_charges 1
  | ldAMHLDec => exact ldAMemHL_charges (-1)
  | incRp rr =>
    exact chargesItsCost_of (exec_incRp rr) (fun _ => by cases rr <;> exact ⟨rfl, rfl⟩)
      (fun s => charges_next (s.setRp_cycles rr _))
  | decRp rr =>
    exact chargesItsCost_of (exec_decRp rr) (fun _ => by cases rr <;> exact ⟨rfl, rfl⟩)
      (fun s => charges_next (s.setRp_cycles rr _))
  | incSrc src =>
    exact chargesItsCost_of (exec_incSrc src) (costs_incSrc · src) (fun s => modifyOperand_charges src _ s)
  | decSrc src =>
    exact chargesItsCost_of (exec_decSrc src) (costs_decSrc · src) (fun s => modifyOperand_charges src _ s)
  | ldSrcN_reg dst n =>
    exact chargesItsCost_of (exec_ldSrcN_reg dst n) (fun _ => by cases dst <;> exact ⟨rfl, rfl⟩)
      (fun s => charges_next rfl)
  | ldSrcN_atHL n => exact fun s => ldMemImm_charges s.regs.hl n s
  | rlca => exact fun s => charges_next rfl
  | rrca => exact fun s => charges_next rfl
  | rla => exact fun s => charges_next rfl
  | rra => exact fun s => charges_next rfl
  | daa => exact fun s => charges_next rfl
  | cpl => exact fun s => charges_next rfl
  | scf => exact fun s => charges_next rfl
  | ccf => exact fun s => charges_next rfl
  | ldRR dst src =>
    exact chargesItsCost_of (exec_ldRR dst src) (fun _ => by cases dst <;> cases src <;> exact ⟨rfl, rfl⟩)
      (fun s => charges_next rfl)
  | ldRMHL dst =>
    exact chargesItsCost_of (exec_ldRMHL dst) (fun _ => by cases dst <;> exact ⟨rfl, rfl⟩)
      (fun s => ldRegMem_charges dst s.regs.hl s)
  | ldMHLR src =>
    exact chargesItsCost_of (exec_ldMHLR src) (fun _ => by cases src <;> exact ⟨rfl, rfl⟩)
      (fun s => ldMemReg_charges s.regs.hl src s)
  | halt => exact fun s => charges_next rfl
  | aluSrc op src => exact chargesItsCost_of (exec_aluSrc op src) (costs_aluSrc · op src) (aluWith_charges op src)
  | aluN op n =>
    exact chargesItsCost_of (exec_aluN op n) (fun _ => by cases op <;> exact ⟨rfl, rfl⟩)
      (fun s => charges_next (aluState_cycles op n s))
  | retCond cc =>
    exact chargesItsCost_of (exec_retCond cc) (fun _ => by cases cc <;> exact ⟨rfl, rfl⟩) (retIf_charges cc)
  | ldhMNA n => exact fun s => ldMemReg_charges (highPage n) .a s
  | ldhAMN n => exact fun s => ldRegMem_charges .a (highPage n) s
  | ldMCA => exact fun s => ldMemReg_charges (highPage s.regs.c) .a s
  | ldAMC => exact fun s => ldRegMem_charges .a (highPage s.regs.c) s
  | ldMNNA nn => exact fun s => ldMemReg_charges nn .a s
  | ldAMNN nn => exact fun s => ldRegMem_charges .a nn s
  | addSPRel e => exact fun s => charges_next rfl
  | ldHLSPRel e => exact fun s => charges_next rfl
  | popRp rr =>
    exact chargesItsCost_of (exec_popRp rr) (fun _ => by cases rr <;> exact ⟨rfl, rfl⟩) (popPair_charges rr)
  | pushRp rr =>
    exact chargesItsCost_of (exec_pushRp rr) (fun _ => by cases rr <;> exact ⟨rfl, rfl⟩) (pushPair_charges rr)
  | ret => exact fun s => charges_of_cycles_eq fun t h => returnFromCall_cycles (done_next.mp h)
  | reti => exact fun s => charges_of_cycles_eq fun t h => returnFromInterrupt_cycles (done_next.mp h)
  | jpHL => exact fun s => charges_next rfl
  | ldSPHL => exact fun s => charges_next rfl
  | jpCond cc nn =>
    exact chargesItsCost_of (exec_jpCond cc nn) (fun _ => by cases cc <;> exact ⟨rfl, rfl⟩) (jumpIf_charges cc nn)
  | jpNN nn => exact fun s => charges_next rfl
  | callCond cc nn =>
    exact chargesItsCost_of (exec_callCond cc nn) (fun _ => by cases cc <;> exact ⟨rfl, rfl⟩) (callIf_charges cc nn)
  | callNN nn => exact fun s t h => callTo_cycles (done_next.mp h)
  | rstY y =>
    exact chargesItsCost_of (exec_rstY y) (fun _ => by cases y <;> exact ⟨rfl, rfl⟩)
      (fun s t h => callTo_cycles (done_next.mp h))
  | di => exact fun s => charges_next rfl
  | ei => exact fun s => charges_next rfl
  | prefixCB second =>
    exact chargesItsCost_of (exec_prefixCB_eq_decodeCB second) (costs_prefixCB · second)
      (decodeCB_byFamily rotSrc_chargesItsCost bitSrc_chargesItsCost resSrc_chargesItsCost setSrc_chargesItsCost second)
  | rotSrc op src => exact rotSrc_chargesItsCost op src
  | bitSrc b src => exact bitSrc_chargesItsCost b src
  | resSrc b src => exact resSrc_chargesItsCost b src
  | setSrc b src => exact setSrc_chargesItsCost b src
  | undefined i op h =>
    intro s
    rw [exec_undefined h]
    exact charges_fault s _ _ _

/-! ## The start and the end of a step -/

/-- The start of a step: a pending EI takes effect, and the counts start from zero (R42, R374). -/
theorem beginStep_eq (s : State) :
    beginStep s = { s with
      ime := s.ime || (s.params.eiDelay && s.eiPending)
      eiPending := s.eiPending && !s.params.eiDelay
      cycles := { instruction := 0, dma := 0, dispatch := 0 } } := by
  unfold beginStep
  cases s.params.eiDelay <;> cases s.eiPending <;> simp

/-- What an instruction is charged extra depends on the flags alone. -/
theorem takenExtra_congr {s t : State} (h : s.regs = t.regs) (i : Instr) : s.takenExtra i = t.takenExtra i := by
  have hcond : s.cond = t.cond := by
    funext cc
    cases cc <;> simp only [State.cond, State.flag, h]
  unfold State.takenExtra
  rw [hcond]

/-- The end of a step takes an interrupt exactly where the check after the peripheral's update finds a source (R412). -/
theorem takesInterrupt_iff (u : State) :
    u.TakesInterrupt ↔
      u.ime = true ∧ readySource (updatePeriph u).ifReg (updatePeriph u).ieReg ≠ none := by
  rw [readySource_ne_none]
  rfl

theorem dispatch_cycles {s t : State} {i : IntSource} (h : dispatch s i = .ok t) :
    t.cycles =
      { instruction := s.cycles.instruction
        dma := s.cycles.dma + s.params.dmaCycles * dmaStarts (s.pushed s.pc)
        dispatch := s.params.intDispatchCycles } := by
  obtain ⟨u, hu, rfl⟩ := dispatch_ok.mp h
  obtain ⟨hcycles, hparams⟩ := push16_cycles hu
  simp [hcycles, hparams, State.pushed]

/-- The end of a step adds the dispatch and the DMAs of its push where it takes an interrupt, and else nothing. -/
theorem finishStep_cycles {u t : State} (h : finishStep u = .next t) :
    (u.TakesInterrupt → t.cycles =
      { instruction := u.cycles.instruction
        dma := u.cycles.dma + u.params.dmaCycles * dmaStarts (u.pushed u.pc)
        dispatch := u.params.intDispatchCycles }) ∧
    (¬ u.TakesInterrupt → t.cycles = u.cycles) := by
  simp only [takesInterrupt_iff]
  rcases interruptCheck_ok.mp (finishStep_next.mp h) with ⟨hime, i, hi, hd⟩ | ⟨hidle, rfl⟩
  · have htakes : readySource (updatePeriph u).ifReg (updatePeriph u).ieReg ≠ none := by
      rw [hi]
      exact Option.some_ne_none i
    exact ⟨fun _ => by simpa [State.pushed] using dispatch_cycles hd, fun hn => absurd ⟨hime, htakes⟩ hn⟩
  · refine ⟨fun ⟨hime, htakes⟩ => ?_, fun _ => rfl⟩
    rcases hidle with hoff | hnone
    · exact absurd (hoff.symm.trans hime) Bool.false_ne_true
    · exact absurd hnone htakes

/-- Settles O58: an execution charges its cost, and the end of the step adds the dispatch. -/
theorem cyclesOfAStep : Obligations.CyclesOfAStep := by
  unfold Obligations.CyclesOfAStep
  intro ends
  refine ⟨chargesItsCost, fun s t hstep => ⟨rfl, fun hh => ?halted, fun bytes i size cycles hr hf hd => ?running⟩⟩
  case halted =>
    rcases step_next.mp hstep with ⟨-, hend⟩ | ⟨hr, -⟩
    · rw [beginStep_eq] at hend
      exact finishStep_cycles hend
    · exact absurd (hr.symm.trans hh) Bool.false_ne_true
  case running =>
    intro start
    have hdec : decodeAt (beginStep s) s.pc = .ok { instr := i, size := size, cycles := cycles } :=
      decodeAt_of_fetch ((decodeAt_congr (busRead_beginStep s) s.pc).1.trans hf) hd
    have hstart : advance (beginStep s) { instr := i, size := size, cycles := cycles } = start := by
      rw [beginStep_eq]
      rfl
    rcases step_next.mp hstep with ⟨hh, -⟩ | ⟨-, f, u, hf', hexec, hend⟩
    · exact absurd (hr.symm.trans hh) Bool.false_ne_true
    · obtain rfl : _ = f := Except.ok.inj (hdec.symm.trans hf')
      rw [hstart] at hexec
      refine ⟨u, hexec, finishStep_cycles hend, ?_⟩
      calc u.cycles = start.charged (start.takenExtra i) (start.stores i) := chargesItsCost i start u hexec
        _ = start.charged (s.takenExtra i) (start.stores i) := by rw [takenExtra_congr (s := start) (t := s) rfl i]
        _ = _ := by simp only [State.charged, start, Nat.zero_add]

end Sys2Proof.Machine
end

section
/-! PROOFS. The bus as a whole (spec/20_memory.md R60 to R105): where an access is fatal and with what, which reads a
write can change, the regions that the families above leave out, and the canonical form of a storage. -/

namespace Sys2Proof.Machine

/-! ## External RAM -/

theorem numRamBanksOf_eq_getD (c : Fin 6) : numRamBanksOf c.val = [0, 1, 1, 4, 16, 8].getD c.val 0 := by
  revert c
  decide

theorem ramLengthOf_eq_getD (c : Fin 6) : ramLengthOf c.val = [0, 2, 8, 32, 128, 64].getD c.val 0 * 1024 := by
  revert c
  decide

/-- The number of RAM banks is a power of two where there is a RAM (R89). -/
theorem numRamBanksOf_eq_two_pow (c : Fin 6) (h : numRamBanksOf c.val ≠ 0) : ∃ n, numRamBanksOf c.val = 2 ^ n := by
  revert c
  have hall : ∀ c : Fin 6, numRamBanksOf c.val ≠ 0 → numRamBanksOf c.val = 2 ^ [0, 0, 0, 2, 4, 3].getD c.val 0 := by
    decide
  exact fun c h => ⟨_, hall c h⟩

/-- Masking with one less than the number of RAM banks is the remainder by it (R87). -/
theorem State.ramBank_eq_mod {s : State} (h : s.numRamBanks ≠ 0) :
    s.ramBank = (if s.mbc.mode = true then s.mbc.bankUpper.toNat else 0) % s.numRamBanks := by
  obtain ⟨n, hn⟩ := numRamBanksOf_eq_two_pow s.ramSizeCode h
  rw [State.ramBank, State.numRamBanks, hn, Nat.and_two_pow_sub_one_eq_mod]

theorem extRamAccess_disabled {s : State} (h : s.mbc.ramEnable = false) (a : Word) (i : Nat) :
    s.extRamAccess a i = .ok none := by
  simp [State.extRamAccess, h]

theorem extRamAccess_inside {s : State} {i : Nat} (he : s.mbc.ramEnable = true) (hb : s.numRamBanks ≠ 0)
    (hk : s.ramOffset i < s.ramLength) (a : Word) : s.extRamAccess a i = .ok (some (s.ramOffset i)) := by
  simp [State.extRamAccess, he, hb, hk]

/-- Enabled RAM that is absent or too small is fatal (R88). -/
theorem extRamAccess_outside {s : State} {i : Nat} (he : s.mbc.ramEnable = true)
    (h : s.numRamBanks = 0 ∨ s.ramLength ≤ s.ramOffset i) (a : Word) :
    s.extRamAccess a i = .error (.extramOutOfRange a) := by
  rcases h with hb | hk
  · simp [State.extRamAccess, he, hb]
  · simp [State.extRamAccess, he, Nat.not_lt.mpr hk]

/-- Settles O37: the three cases are the three answers of `extRamAccess`, with the mask of the bank a remainder. -/
theorem externalRamAccess : Obligations.ExternalRamAccess := by
  unfold Obligations.ExternalRamAccess
  intro s a v h1 h2 banks size k
  have hbanks : banks = s.numRamBanks := (numRamBanksOf_eq_getD s.ramSizeCode).symm
  have hsize : size = s.ramLength := (ramLengthOf_eq_getD s.ramSizeCode).symm
  have hoffset (hb : s.numRamBanks ≠ 0) : k = s.ramOffset (a.toNat - 0xA000) := by
    rw [State.ramOffset, State.ramBank_eq_mod hb, ← hbanks]
  simp only [busRead, busWrite, route_extRam h1 h2]
  rw [hbanks, hsize]
  refine ⟨fun he => ?disabled, fun he hb hk => ?inside, fun he hf => ?outside⟩
  case disabled => simp [extRamAccess_disabled he]
  case inside =>
    rw [hoffset hb] at hk ⊢
    simp [extRamAccess_inside he hb hk]
  case outside =>
    have hf' : s.numRamBanks = 0 ∨ s.ramLength ≤ s.ramOffset (a.toNat - 0xA000) := by
      by_cases hb : s.numRamBanks = 0
      · exact .inl hb
      · exact .inr (hoffset hb ▸ hf.resolve_left hb)
    simp [extRamAccess_outside he hf']

/-! ## Where an access is fatal -/

/-- The fault of an access to an address that is not accessible (R64, R88). -/
def accessFault (a : Word) : Fault :=
  if 0xFF4C ≤ a.toNat ∧ a.toNat ≤ 0xFF7F then .unmappedAddress a else .extramOutOfRange a

/-- An address is not accessible in the hole, or where it is external RAM that does not answer. -/
theorem not_accessible_cases {s : State} {a : Word} (h : ¬ s.Accessible a) :
    route a = .hole ∧ accessFault a = .unmappedAddress a ∨
      ∃ i, route a = .extRam i ∧ s.extRamAccess a i = .error (.extramOutOfRange a) ∧
        accessFault a = .extramOutOfRange a := by
  by_cases hhole : 0xFF4C ≤ a.toNat ∧ a.toNat ≤ 0xFF7F
  · exact .inl ⟨route_hole hhole.1 hhole.2, if_pos hhole⟩
  · have hext : ¬ (0xA000 ≤ a.toNat → a.toNat ≤ 0xBFFF → s.mbc.ramEnable = true →
        s.numRamBanks ≠ 0 ∧ s.ramOffset (a.toNat - 0xA000) < s.ramLength) := fun he => h ⟨hhole, he⟩
    push Not at hext
    obtain ⟨h1, h2, he, hout⟩ := hext
    exact .inr ⟨_, route_extRam h1 h2, extRamAccess_outside he (Classical.or_iff_not_imp_left.mpr hout) a,
      if_neg hhole⟩

theorem busAccess_of_not_accessible {s : State} {a : Word} (h : ¬ s.Accessible a) (v : Byte) :
    busRead s a = .error (accessFault a) ∧ busWrite s a v = .error (accessFault a) := by
  rcases not_accessible_cases h with ⟨hr, hf⟩ | ⟨i, hr, he, hf⟩
  · simp only [busRead, busWrite, hr, hf, and_self]
  · simp only [busRead, busWrite, hr, he, hf, and_self]

/-- A read answers a byte exactly at an accessible address (R402). -/
theorem busRead_ok_iff {s : State} {a : Word} : (∃ b, busRead s a = .ok b) ↔ s.Accessible a := by
  refine ⟨fun ⟨b, hb⟩ => ?_, fun h => ⟨_, busRead_of_accessible h⟩⟩
  by_contra h
  rw [(busAccess_of_not_accessible h 0).1] at hb
  cases hb

/-- A write that starts no DMA completes at an accessible address. -/
theorem busWrite_of_accessible {s : State} {a : Word} (h : s.Accessible a) (hne : a ≠ 0xFF46) (v : Byte) :
    ∃ t, busWrite s a v = .ok t := by
  have hread := busRead_of_accessible h
  have hr := route_inv a
  unfold busRead at hread
  unfold busWrite
  cases hk : route a with
  | dmaTrigger => simp only [hk] at hr; exact absurd (BitVec.eq_of_toNat_eq hr) hne
  | extRam i =>
    simp only [hk] at hread
    rcases he : s.extRamAccess a i with e | (_ | k)
    · simp [he] at hread
    · exact ⟨s, by simp only [he]⟩
    · exact ⟨{ s with cartRam := s.cartRam.write k v }, by simp only [he]⟩
  | hole => simp [hk] at hread
  | _ => exact ⟨_, rfl⟩

/-- A DMA that meets a source byte it cannot read ends in the fault of the first such byte (R90). -/
theorem busWrite_dmaTrigger_fault {s : State} {v : Byte} {i : Nat} (hi : i < 0xA0)
    (before : ∀ j, j < i → s.Accessible (ofBytes v 0 + BitVec.ofNat 16 j))
    (h : ¬ s.Accessible (ofBytes v 0 + BitVec.ofNat 16 i)) :
    busWrite s 0xFF46 v = .error (accessFault (ofBytes v 0 + BitVec.ofNat 16 i)) := by
  have hcopy := dmaCopy_range_fault hi before
    fun p => (busAccess_of_not_accessible (s := s.withPeriph p) h 0).1
  simp only [busWrite, route_dmaTrigger, dmaWrite, hcopy]

theorem dmaTrigger_accessible (s : State) : s.Accessible 0xFF46 := by
  refine ⟨?_, fun _ h => absurd h ?_⟩ <;> decide

/-- A write completes exactly where it is writable (R90, R402). -/
theorem busWrite_ok_iff {s : State} {a : Word} {v : Byte} :
    (∃ t, busWrite s a v = .ok t) ↔ s.Writable a v := by
  by_cases ha : a = 0xFF46
  · subst ha
    refine ⟨fun ⟨t, ht⟩ => ⟨dmaTrigger_accessible s, fun _ i => ?_⟩, fun ⟨_, h⟩ => ?_⟩
    · induction i using Nat.strong_induction_on with
      | _ i ih =>
        intro hi
        by_contra h
        rw [busWrite_dmaTrigger_fault hi (fun j hj => ih j hj (hj.trans hi)) h] at ht
        cases ht
    · obtain ⟨p, hp⟩ := exists_dmaRun s (ofBytes v 0)
      exact ⟨_, busWrite_dmaTrigger hp (h rfl)⟩
  · refine ⟨fun ⟨t, ht⟩ => ⟨?_, fun h => absurd h ha⟩, fun h => busWrite_of_accessible h.1 ha v⟩
    by_contra h
    rw [(busAccess_of_not_accessible h v).2] at ht
    cases ht

/-- Settles O39: the read, the write and the DMA each complete where their addresses are accessible, and are fatal with
`accessFault` where one is not. -/
theorem busAccessSucceeds : Obligations.BusAccessSucceeds := by
  unfold Obligations.BusAccessSucceeds
  intro s a v
  exact ⟨busRead_ok_iff, fun h => busAccess_of_not_accessible h v, busWrite_ok_iff,
    fun _ => busWrite_dmaTrigger_fault⟩

/-! ## Which reads a write can change -/

/-- A read sees the bank registers only in the two banked windows (R86, R88). -/
theorem busRead_mbcWrite {s : State} {n : Nat} {v : Byte} {b : Word}
    (h : ¬ ((0x4000 ≤ b.toNat ∧ b.toNat ≤ 0x7FFF) ∨ (0xA000 ≤ b.toNat ∧ b.toNat ≤ 0xBFFF))) :
    busRead (s.mbcWrite n v) b = busRead s b := by
  have hr := route_inv b
  unfold busRead
  cases hk : route b with
  | romSwitch i => simp only [hk] at hr; omega
  | extRam i => simp only [hk] at hr; omega
  | _ => rfl

/-- A read outside the peripheral's addresses and IF sees nothing that the peripheral changes. -/
theorem busRead_periph_frame {s t : State} {b : Word}
    (ht : t = { s with periph := t.periph, ifReg := t.ifReg, cycles := t.cycles })
    (h : ¬ (periphAddress b ∨ b = 0xFF0F)) : busRead t b = busRead s b := by
  rw [ht]
  have hr := route_inv b
  unfold busRead
  cases hk : route b with
  | dmaTrigger | vram | oam | audio | display => simp only [hk] at hr; omega
  | intFlag => simp only [hk] at hr; exact absurd (.inr (BitVec.eq_of_toNat_eq hr)) h
  | _ => rfl

/-- A write to the peripheral changes the peripheral, IF and the DMA's cycles (R74, R90, R96). -/
theorem busWrite_periph_frame {s t : State} {a : Word} {v : Byte} (ha : periphAddress a)
    (h : busWrite s a v = .ok t) : t = { s with periph := t.periph, ifReg := t.ifReg, cycles := t.cycles } := by
  have hr := route_inv a
  unfold busWrite at h
  cases hk : route a with
  | dmaTrigger =>
    simp only [hk, dmaWrite] at h
    cases hc : dmaCopy (ofBytes v 0) s (List.range 0xA0) with
    | error e => rw [hc] at h; cases h
    | ok u =>
      rw [hc] at h
      cases h
      rw [dmaCopy_frame hc]
      rfl
  | vram | oam | audio | display => simp only [hk] at h; cases h; rfl
  | _ => simp only [hk] at hr; omega

/-- A read of another byte does not see a write to work RAM; the echo is the same byte (R68, R69). -/
theorem busRead_wramWrite {s : State} {a b : Word} {v : Byte} {i : Nat} (ha : route a = .wram i)
    (h : ¬ sameByte a b) : busRead { s with wram := s.wram.write i v } b = busRead s b := by
  have hra := route_inv a
  have hrb := route_inv b
  simp only [sameByte, ← BitVec.toNat_inj] at h
  unfold busRead
  cases hk : route b with
  | wram j =>
    simp only [ha, hk] at hra hrb
    simp only [Memory.read_write_other s.wram v (show j ≠ i by omega)]
  | _ => rfl

theorem busRead_hramWrite {s : State} {a b : Word} {v : Byte} {i : Nat} (ha : route a = .hram i)
    (h : ¬ sameByte a b) : busRead { s with hram := s.hram.write i v } b = busRead s b := by
  have hra := route_inv a
  have hrb := route_inv b
  simp only [sameByte, ← BitVec.toNat_inj] at h
  unfold busRead
  cases hk : route b with
  | hram j =>
    simp only [ha, hk] at hra hrb
    simp only [Memory.read_write_other s.hram v (show j ≠ i by omega)]
  | _ => rfl

/-- The offset an access of external RAM reaches is that of its window index (R88). -/
theorem extRamAccess_some {s : State} {a : Word} {i k : Nat} (h : s.extRamAccess a i = .ok (some k)) :
    k = s.ramOffset i := by
  unfold State.extRamAccess at h
  split_ifs at h with h1 h2 h3
  · cases h
  · cases h
    rfl

theorem busRead_extRamWrite {s : State} {a b : Word} {v : Byte} {i k : Nat} (ha : route a = .extRam i)
    (hk : s.extRamAccess a i = .ok (some k)) (h : ¬ sameByte a b) :
    busRead { s with cartRam := s.cartRam.write k v } b = busRead s b := by
  have hra := route_inv a
  have hrb := route_inv b
  simp only [sameByte, ← BitVec.toNat_inj] at h
  unfold busRead
  cases hkb : route b with
  | extRam j =>
    simp only [ha, hkb] at hra hrb
    have hsame (m : Memory) : State.extRamAccess { s with cartRam := m } b j = s.extRamAccess b j := rfl
    rcases hj : s.extRamAccess b j with e | (_ | l)
    · simp only [hsame, hj]
    · simp only [hsame, hj]
    · have hne : l ≠ k := by
        rw [extRamAccess_some hj, extRamAccess_some hk, State.ramOffset, State.ramOffset]
        omega
      simp only [hsame, hj, Memory.read_write_other s.cartRam v hne]
  | _ => rfl

theorem busRead_ifWrite {s : State} {b : Word} {v : Byte} (h : ¬ sameByte 0xFF0F b) :
    busRead { s with ifReg := v } b = busRead s b := by
  have hr := route_inv b
  unfold busRead
  cases hk : route b with
  | intFlag => simp only [hk] at hr; exact absurd (.inl (BitVec.eq_of_toNat_eq hr.symm)) h
  | _ => rfl

theorem busRead_ieWrite {s : State} {b : Word} {v : Byte} (h : ¬ sameByte 0xFFFF b) :
    busRead { s with ieReg := v } b = busRead s b := by
  have hr := route_inv b
  unfold busRead
  cases hk : route b with
  | intEnable => simp only [hk] at hr; exact absurd (.inl (BitVec.eq_of_toNat_eq hr.symm)) h
  | _ => rfl

/-- A write to the address space of the ROM is a write of a bank register (R80 to R83). -/
theorem busWrite_bankRegister {a : Word} (h : a.toNat ≤ 0x7FFF) (s : State) (v : Byte) :
    busWrite s a v = .ok (s.mbcWrite a.toNat v) := by
  by_cases h1 : a.toNat ≤ 0x3FFF
  · simp only [busWrite, route_romFixed h1]
  · simp only [busWrite, route_romSwitch (by omega) h]

/-- What an address that is none of the bank registers', the peripheral's and the unmapped ones can be: a byte of a
RAM, IF or IE, or the hole (R61). -/
theorem busRead_of_write_stored {s t : State} {a b : Word} {v : Byte} (hrom : ¬ a.toNat ≤ 0x7FFF)
    (hperiph : ¬ periphAddress a) (hw : busWrite s a v = .ok t) (hb : ¬ sameByte a b) : busRead t b = busRead s b := by
  have hr := route_inv a
  unfold busWrite at hw
  cases hk : route a with
  | romFixed | romSwitch => simp only [hk] at hr; omega
  | dmaTrigger | vram | oam | audio | display => simp only [hk] at hr; omega
  | hole => simp [hk] at hw
  | unmapped => simp only [hk] at hw; cases hw; rfl
  | wram i => simp only [hk] at hw; cases hw; exact busRead_wramWrite hk hb
  | hram i => simp only [hk] at hw; cases hw; exact busRead_hramWrite hk hb
  | extRam i =>
    simp only [hk] at hw
    rcases he : s.extRamAccess a i with e | (_ | k)
    · rw [he] at hw; cases hw
    · rw [he] at hw; cases hw; rfl
    · rw [he] at hw; cases hw; exact busRead_extRamWrite hk he hb
  | intFlag =>
    simp only [hk] at hw hr
    cases hw
    obtain rfl : a = 0xFF0F := BitVec.eq_of_toNat_eq hr
    exact busRead_ifWrite hb
  | intEnable =>
    simp only [hk] at hw hr
    cases hw
    obtain rfl : a = 0xFFFF := BitVec.eq_of_toNat_eq hr
    exact busRead_ieWrite hb

/-- Every read that a write cannot change gives after the write what it gave before (R103). -/
theorem busRead_of_busWrite {s t : State} {a b : Word} {v : Byte} (hw : busWrite s a v = .ok t)
    (hb : ¬ canChange a b) : busRead t b = busRead s b := by
  unfold canChange at hb
  split at hb
  · next hrom =>
    cases (busWrite_bankRegister hrom s v).symm.trans hw
    exact busRead_mbcWrite hb
  · next hrom =>
    split at hb
    · next hp => exact busRead_periph_frame (busWrite_periph_frame hp hw) hb
    · next hp =>
      split at hb
      · next hu =>
        cases (busAccess_unmapped s v hu).2.symm.trans hw
        rfl
      · exact busRead_of_write_stored hrom hp hw hb

/-- Where an address stores, a write completes and is read back, and it is no bank register, peripheral or unmapped
address (R68, R69, R71 to R73, R88). -/
theorem busWrite_storesAt {s : State} {a : Word} (h : s.StoresAt a) (v : Byte) :
    ∃ t, busWrite s a v = .ok t ∧ busRead t a = .ok v := by
  have hlt := a.isLt
  rcases h with ⟨h1, h2⟩ | rfl | h1 | ⟨h1, h2, he, hacc⟩
  · by_cases hw : a.toNat ≤ 0xDFFF
    · exact ⟨_, (busAccess_wram s v h1 hw).2, by rw [(busAccess_wram _ v h1 hw).1]; simp⟩
    · exact ⟨{ s with wram := s.wram.write (a.toNat - 0xE000) v }, by simp only [busWrite, route_echo (by omega) h2],
        by simp [busRead, route_echo (show 0xE000 ≤ a.toNat by omega) h2]⟩
  · exact ⟨{ s with ifReg := v }, rfl, rfl⟩
  · by_cases hm : a.toNat ≤ 0xFFFE
    · exact ⟨_, (busAccess_hram s v h1 hm).2, by rw [(busAccess_hram _ v h1 hm).1]; simp⟩
    · obtain rfl : a = 0xFFFF := BitVec.eq_of_toNat_eq (show a.toNat = 0xFFFF by omega)
      exact ⟨{ s with ieReg := v }, rfl, rfl⟩
  · obtain ⟨hb, hk⟩ := hacc.2 h1 h2 he
    have hread (m : Memory) : State.extRamAccess { s with cartRam := m } a (a.toNat - 0xA000) =
        .ok (some (s.ramOffset (a.toNat - 0xA000))) := extRamAccess_inside he hb hk a
    refine ⟨{ s with cartRam := s.cartRam.write (s.ramOffset (a.toNat - 0xA000)) v }, ?_, ?_⟩
    · simp only [busWrite, route_extRam h1 h2, hread s.cartRam]
    · simp only [busRead, route_extRam h1 h2, hread, Memory.read_write_same]

/-- Settles O40: the frame is by the region of the address written, the read-back by the storage the byte is in. -/
theorem writesChangeOnlyTheirBytes : Obligations.WritesChangeOnlyTheirBytes := by
  unfold Obligations.WritesChangeOnlyTheirBytes
  exact ⟨fun s t a b v => busRead_of_busWrite, fun s a v h => busWrite_storesAt h v⟩

/-! ## The echo, the interrupt registers and the bank registers -/

/-- An echo address is the work RAM byte `0x2000` below it (R69). -/
theorem busAccess_echo (s : State) {a : Word} (v : Byte) (h1 : 0xE000 ≤ a.toNat) (h2 : a.toNat ≤ 0xFDFF) :
    busRead s a = .ok (s.wram.read (a.toNat - 0xE000)) ∧
      busWrite s a v = .ok { s with wram := s.wram.write (a.toNat - 0xE000) v } := by
  simp only [busRead, busWrite, route_echo h1 h2, and_self]

/-- Settles O34: an echo address and the address it mirrors have one target. -/
theorem echoAndInterruptRegisters : Obligations.EchoAndInterruptRegisters := by
  unfold Obligations.EchoAndInterruptRegisters
  intro s a v
  refine ⟨fun h1 h2 => ?_, rfl, rfl, rfl, rfl⟩
  obtain ⟨hread, hwrite⟩ := busAccess_echo s v h1 h2
  have hmirror : (a - 0x2000).toNat = a.toNat - 0x2000 := by bv_omega
  obtain ⟨hread', hwrite'⟩ := busAccess_wram s v (a := a - 0x2000) (by omega) (by omega)
  have hindex : (a - 0x2000).toNat - 0xC000 = a.toNat - 0xE000 := by omega
  rw [hindex] at hread' hwrite'
  exact ⟨hread, hread.trans hread'.symm, hwrite, hwrite.trans hwrite'.symm⟩

theorem lowNibble_beq_0xA (v : Byte) : (v &&& 0x0F == 0x0A) = decide (v.toNat % 16 = 0xA) := by
  rw [beq_eq_decide, decide_eq_decide, ← BitVec.toNat_inj, toNat_and_0xF]
  rfl

/-- The low bits of a byte as a narrower register (R81, R82). -/
theorem setWidth_eq_ofNat_mod (v : Byte) (w : Nat) : v.setWidth w = BitVec.ofNat w (v.toNat % 2 ^ w) := by
  apply BitVec.eq_of_toNat_eq
  simp

/-- Settles O35: the four ranges are the branches of `Mbc1.write`. -/
theorem bankRegisterWrites : Obligations.BankRegisterWrites := by
  unfold Obligations.BankRegisterWrites
  intro s a v
  have hwrite (h : a.toNat ≤ 0x7FFF) :
      busWrite s a v = .ok { s with mbc := s.mbc.write s.params.mbc1ModeWrite a.toNat v } := busWrite_bankRegister h s v
  refine ⟨fun h => ?enable, fun h1 h2 => ?lower, fun h1 h2 => ?upper, fun h1 h2 => ?mode⟩
  case enable => rw [hwrite (by omega), Mbc1.write, if_pos h, lowNibble_beq_0xA]
  case lower => rw [hwrite (by omega), Mbc1.write, if_neg (by omega), if_pos h2, setWidth_eq_ofNat_mod]; rfl
  case upper =>
    rw [hwrite (by omega), Mbc1.write, if_neg (by omega), if_neg (by omega), if_pos h2, setWidth_eq_ofNat_mod]; rfl
  case mode =>
    rw [hwrite h2, Mbc1.write, if_neg (by omega), if_neg (by omega), if_neg (by omega)]
    exact ⟨fun h => by rw [h, nextMode], fun h => by rw [h, nextMode, getLsbD_zero]⟩

/-! ## The canonical form of a storage -/

theorem Memory.read_of_forall_ne {m : Memory} {k : Nat} (h : ∀ cell ∈ m, cell.1 ≠ k) : m.read k = unlisted := by
  induction m with
  | nil => rfl
  | cons cell rest ih =>
    rw [Memory.read, if_neg (h cell List.mem_cons_self), ih fun c hc => h c (List.mem_cons_of_mem _ hc)]

theorem Memory.read_cons_self (cell : Host.Cell) (rest : Memory) : Memory.read (cell :: rest) cell.1 = cell.2 :=
  if_pos rfl

/-- The tail of a canonical storage is canonical and holds nothing at or below the head's index. -/
theorem Memory.wf_cons {cell : Host.Cell} {rest : Memory} (h : Memory.wf (cell :: rest)) :
    cell.2 ≠ unlisted ∧ Memory.wf rest ∧ ∀ k ≤ cell.1, Memory.read rest k = unlisted := by
  obtain ⟨hsorted, hlisted⟩ := h
  rw [List.pairwise_cons] at hsorted
  obtain ⟨hhead, htail⟩ := hsorted
  refine ⟨hlisted cell List.mem_cons_self, ⟨htail, fun c hc => hlisted c (List.mem_cons_of_mem _ hc)⟩, fun k hk => ?_⟩
  exact Memory.read_of_forall_ne fun c hc => Nat.ne_of_gt (Nat.lt_of_le_of_lt hk (hhead c hc))

/-- The first index of a canonical storage is the first at which anything is read. -/
theorem Memory.head_le_of_read_eq {c d : Host.Cell} {m n : Memory} (hc : Memory.wf (c :: m)) (hd : Memory.wf (d :: n))
    (h : ∀ k, Memory.read (c :: m) k = Memory.read (d :: n) k) : d.1 ≤ c.1 := by
  by_contra hlt
  obtain ⟨hlisted, -, -⟩ := Memory.wf_cons hc
  obtain ⟨-, -, hbelow⟩ := Memory.wf_cons hd
  have hread : Memory.read (d :: n) c.1 = unlisted := by
    rw [Memory.read, if_neg (by omega), hbelow c.1 (by omega)]
  exact hlisted ((Memory.read_cons_self c m).symm.trans ((h c.1).trans hread))

/-- A canonical storage is determined by what its indices read as (log entry 4). -/
theorem Memory.eq_of_read_eq {m n : Memory} (hm : m.wf) (hn : n.wf) (h : ∀ k, m.read k = n.read k) : m = n := by
  induction m generalizing n with
  | nil =>
    cases n with
    | nil => rfl
    | cons d n =>
      obtain ⟨hlisted, -, -⟩ := Memory.wf_cons hn
      exact absurd ((Memory.read_cons_self d n).symm.trans (h d.1).symm) hlisted
  | cons c m ih =>
    cases n with
    | nil =>
      obtain ⟨hlisted, -, -⟩ := Memory.wf_cons hm
      exact absurd ((Memory.read_cons_self c m).symm.trans (h c.1)) hlisted
    | cons d n =>
      have hindex : c.1 = d.1 :=
        Nat.le_antisymm (Memory.head_le_of_read_eq hn hm fun k => (h k).symm) (Memory.head_le_of_read_eq hm hn h)
      have hbyte : c.2 = d.2 := by
        rw [← Memory.read_cons_self c m, h c.1, hindex, Memory.read_cons_self]
      obtain ⟨-, hmwf, hmbelow⟩ := Memory.wf_cons hm
      obtain ⟨-, hnwf, hnbelow⟩ := Memory.wf_cons hn
      rw [Prod.ext hindex hbyte, ih hmwf hnwf fun k => ?_]
      by_cases hk : c.1 = k
      · rw [hmbelow k hk.ge, hnbelow k (hindex ▸ hk.ge)]
      · have := h k
        rwa [Memory.read, if_neg hk, Memory.read, if_neg (hindex ▸ hk)] at this

/-- Settles O41: uniqueness by comparing the first entries, and a write by the laws of one storage. -/
theorem canonicalMemoryIsUnique : Obligations.CanonicalMemoryIsUnique := by
  unfold Obligations.CanonicalMemoryIsUnique
  refine ⟨fun m n => Memory.eq_of_read_eq, fun m k j v h => ⟨?_, Memory.wf_write h k v⟩⟩
  split
  · next hj => rw [hj, Memory.read_write_same]
  · next hj => exact Memory.read_write_other m v hj

end Sys2Proof.Machine
end

section
/-! PROOFS. Every instruction as its loads, then its stores, then an update of the CPU (spec/40_load.md to
spec/45_system.md): from that one form follow what it leaves unchanged, where it completes and with what it is fatal. -/

namespace Sys2Proof.Machine

/-! ## Lists of stores and the CPU's own state -/

theorem storeAll_cons (s : State) (p : Word × Byte) (rest : List (Word × Byte)) :
    storeAll s (p :: rest) = (busWrite s p.1 p.2).bind (storeAll · rest) := by
  rw [storeAll]
  cases busWrite s p.1 p.2 <;> rfl

/-- What each bus write of a list keeps, the list keeps. -/
theorem storeAll_induction {P : State → State → Prop} (refl : ∀ s, P s s) (trans : ∀ {s t u}, P s t → P t u → P s u)
    (write : ∀ {s t a v}, busWrite s a v = .ok t → P s t) {l : List (Word × Byte)} {s t : State}
    (h : storeAll s l = .ok t) : P s t := by
  induction l generalizing s with
  | nil => cases h; exact refl _
  | cons p rest ih =>
    rw [storeAll_cons] at h
    cases hb : busWrite s p.1 p.2 with
    | error e => rw [hb] at h; cases h
    | ok u => rw [hb] at h; exact trans (write hb) (ih h)

/-- Bus writes leave the CPU's own state. -/
theorem storeAll_putCpu_self {l : List (Word × Byte)} {s t : State} (h : storeAll s l = .ok t) : t.putCpu s = t := by
  refine storeAll_induction (P := fun s t => t.putCpu s = t) (fun _ => rfl) (fun h1 h2 => ?_) (fun h => ?_) h
  · rw [← h2, ← h1]
    rfl
  · rw [busWrite_frame h]
    rfl

/-! ## The form of an instruction -/

/-- The bus reads of a list of addresses, in order: whether each succeeds, or the fault of the first that does not. -/
def readAll (s : State) : List Word → Except Fault Unit
  | [] => .ok ()
  | a :: rest =>
    match busRead s a with
    | .ok _ => readAll s rest
    | .error e => .error e

/-- The loads, then the stores, and at the end the CPU's own state of `cpu`; a fatal access is the outcome. -/
def State.perform (s : State) (loads : List Word) (stores : List (Word × Byte)) (cpu : State) : Out :=
  match readAll s loads with
  | .ok () => done ((storeAll s stores).map (·.putCpu cpu))
  | .error e => .fault e

theorem State.perform_next {s t cpu : State} {loads : List Word} {stores : List (Word × Byte)} :
    s.perform loads stores cpu = .next t ↔
      readAll s loads = .ok () ∧ ∃ u, storeAll s stores = .ok u ∧ t = u.putCpu cpu := by
  unfold State.perform
  cases readAll s loads with
  | error e => simp
  | ok x => cases storeAll s stores <;> simp [Except.map, eq_comm]

theorem State.perform_fault {s cpu : State} {loads : List Word} {stores : List (Word × Byte)} {e : Fault} :
    s.perform loads stores cpu = .fault e ↔
      readAll s loads = .error e ∨ (readAll s loads = .ok () ∧ storeAll s stores = .error e) := by
  unfold State.perform
  cases readAll s loads with
  | error e => simp
  | ok x => cases storeAll s stores <;> simp [Except.map]

theorem State.perform_ne_refused {s cpu : State} {loads : List Word} {stores : List (Word × Byte)} {r : Refusal} :
    s.perform loads stores cpu ≠ .refused r := by
  unfold State.perform
  cases readAll s loads with
  | error e => simp
  | ok x => cases storeAll s stores <;> simp [Except.map]

/-! ## The shared operations in that form -/

/-- An update of the CPU alone. -/
theorem next_eq_perform {s t : State} (h : s.putCpu t = t) : Host.Outcome.next t = s.perform [] [] t := by
  rw [State.perform, readAll, storeAll, Except.map, done_ok, h]

/-- An outcome that is stores and then an update of the CPU. -/
theorem done_eq_perform (s : State) (stores : List (Word × Byte)) (cpu : State) :
    done ((storeAll s stores).map (·.putCpu cpu)) = s.perform [] stores cpu := rfl

theorem storeAll_single (s : State) (a : Word) (v : Byte) : storeAll s [(a, v)] = busWrite s a v := by
  rw [storeAll_cons]
  cases busWrite s a v <;> rfl

theorem busWrite_eq_perform (s : State) (a : Word) (v : Byte) : done (busWrite s a v) = s.perform [] [(a, v)] s := by
  rw [← done_eq_perform, ← storeAll_single]
  cases h : storeAll s [(a, v)] with
  | error e => rfl
  | ok t => rw [Except.map, storeAll_putCpu_self h]

theorem ldMemReg_eq_perform (a : Word) (src : R8) (s : State) :
    ldMemReg a src s = s.perform [] [(a, s.regs.get src)] s :=
  busWrite_eq_perform s a (s.regs.get src)

theorem ldMemHLA_eq_perform (step : Word) (s : State) :
    ldMemHLA step s = s.perform [] [(s.regs.hl, s.regs.a)] (s.setHL (s.regs.hl + step)) := by
  rw [← done_eq_perform, storeAll_single, ldMemHLA]
  cases h : busWrite s s.regs.hl s.regs.a with
  | error e => rfl
  | ok t =>
    rw [← storeAll_single] at h
    rw [← storeAll_putCpu_self h]
    rfl

theorem ldMemSP_eq_perform (nn : Word) (s : State) :
    ldMemSP nn s = s.perform [] [(nn, loByte s.sp), (nn + 1, hiByte s.sp)] s := by
  have hpair : ldMemSP nn s = done (storeAll s [(nn, loByte s.sp), (nn + 1, hiByte s.sp)]) := by
    rw [ldMemSP, storeAll_cons]
    cases busWrite s nn (loByte s.sp) with
    | error e => rfl
    | ok t => simp only [Except.bind, storeAll_single]
  rw [hpair, ← done_eq_perform]
  cases h : storeAll s [(nn, loByte s.sp), (nn + 1, hiByte s.sp)] with
  | error e => rfl
  | ok t => rw [Except.map, storeAll_putCpu_self h]

/-- `Push16(v)` is its two stores, and SP two lower (R230). -/
theorem push16_eq_storeAll (s : State) (v : Word) :
    push16 s v = (storeAll s (s.pushed v)).map (·.putCpu (s.setSP (s.sp - 2))) := by
  have h2 : s.sp - 1 - 1 = s.sp - 2 := by bv_omega
  have hpush : push16 s v = (storeAll s (s.pushed v)).map (·.setSP (s.sp - 2)) := by
    rw [State.pushed, storeAll_cons, push16, busWrite_setSP]
    cases hb : busWrite s (s.sp - 1) (hiByte v) with
    | error e => rfl
    | ok t =>
      simp only [Except.map, Except.bind, State.setSP_sp, busWrite_setSP, storeAll_single, h2]
      generalize s.sp - 2 = q
      cases busWrite t q (loByte v) <;> rfl
  rw [hpush]
  cases h : storeAll s (s.pushed v) with
  | error e => rfl
  | ok t =>
    rw [← storeAll_putCpu_self h]
    rfl

theorem pushPair_eq_perform (rr : Rp2) (s : State) :
    pushPair rr s = s.perform [] (s.pushed (s.getRp2 rr)) (s.setSP (s.sp - 2)) := by
  rw [pushPair, push16_eq_storeAll, done_eq_perform]

/-- The CPU after a call: SP two lower and PC at the target (R346). -/
def State.called (s : State) (target : Word) : State := (s.setSP (s.sp - 2)).setPC target

theorem callTo_eq_storeAll (target : Word) (s : State) :
    callTo target s = (storeAll s (s.pushed s.pc)).map (·.putCpu (s.called target)) := by
  rw [callTo, push16_eq_storeAll]
  cases storeAll s (s.pushed s.pc) <;> rfl

theorem callTo_eq_perform (target : Word) (s : State) :
    done (callTo target s) = s.perform [] (s.pushed s.pc) (s.called target) := by
  rw [callTo_eq_storeAll, done_eq_perform]

theorem callIf_eq_perform (cc : Cond) (target : Word) (s : State) :
    callIf cc target s = s.perform [] (if s.cond cc then s.pushed s.pc else [])
      (if s.cond cc then (s.called target).charge 12 else s) := by
  rw [callIf, callTo_eq_storeAll, ← done_eq_perform]
  cases s.cond cc with
  | false => rfl
  | true =>
    simp only [if_true]
    cases storeAll s (s.pushed s.pc) <;> rfl

theorem jumpIf_eq_perform (cc : Cond) (target : Word) (s : State) :
    jumpIf cc target s = s.perform [] [] (if s.cond cc then (s.setPC target).charge 4 else s) :=
  next_eq_perform (by cases s.cond cc <;> rfl)

/-! ### Reads -/

theorem byteAt_of_busRead {s : State} {a : Word} {v : Byte} (h : busRead s a = .ok v) : s.byteAt a = v := by
  rw [State.byteAt, h]

theorem ldRegMem_eq_perform (dst : R8) (a : Word) (s : State) :
    ldRegMem dst a s = s.perform [a] [] (s.setReg dst (s.byteAt a)) := by
  rw [ldRegMem, State.perform, readAll]
  cases h : busRead s a with
  | error e => rfl
  | ok v => rw [byteAt_of_busRead h]; rfl

theorem ldAMemHL_eq_perform (step : Word) (s : State) :
    ldAMemHL step s =
      s.perform [s.regs.hl] [] ((s.setReg .a (s.byteAt s.regs.hl)).setHL (s.regs.hl + step)) := by
  rw [ldAMemHL, State.perform, readAll]
  cases h : busRead s s.regs.hl with
  | error e => rfl
  | ok v => rw [byteAt_of_busRead h]; rfl

/-- The word on the top of the stack (R231). -/
def State.stackWord (s : State) : Word := ofBytes (s.byteAt (s.sp + 1)) (s.byteAt s.sp)

/-- `Pop16()` is its two loads, and SP two higher (R231). -/
theorem pop16_eq_readAll (s : State) :
    pop16 s = (readAll s [s.sp, s.sp + 1]).map fun _ => (s.setSP (s.sp + 2), s.stackWord) := by
  have h2 : s.sp + 1 + 1 = s.sp + 2 := by bv_omega
  have hr : busRead (s.setSP (s.sp + 1)) (s.sp + 1) = busRead s (s.sp + 1) := rfl
  rw [pop16, hr, h2, readAll, readAll, State.stackWord]
  cases hlo : busRead s s.sp with
  | error e => rfl
  | ok lo =>
    cases hhi : busRead s (s.sp + 1) with
    | error e => rfl
    | ok hi => rw [byteAt_of_busRead hlo, byteAt_of_busRead hhi]; rfl

theorem popPair_eq_perform (rr : Rp2) (s : State) :
    popPair rr s = s.perform [s.sp, s.sp + 1] [] ((s.setSP (s.sp + 2)).setRp2 rr s.stackWord) := by
  rw [popPair, pop16_eq_readAll, State.perform]
  cases readAll s [s.sp, s.sp + 1] with
  | error e => rfl
  | ok x => cases rr <;> rfl

/-- The CPU after a return: SP two higher and PC from the stack (R348). -/
def State.returned (s : State) : State := (s.setSP (s.sp + 2)).setPC s.stackWord

theorem returnFromCall_eq_readAll (s : State) :
    returnFromCall s = (readAll s [s.sp, s.sp + 1]).map fun _ => s.returned := by
  rw [returnFromCall, pop16_eq_readAll]
  cases readAll s [s.sp, s.sp + 1] <;> rfl

theorem returnFromCall_eq_perform (s : State) :
    done (returnFromCall s) = s.perform [s.sp, s.sp + 1] [] s.returned := by
  rw [returnFromCall_eq_readAll, State.perform]
  cases readAll s [s.sp, s.sp + 1] <;> rfl

theorem returnFromInterrupt_eq_perform (s : State) :
    done (returnFromInterrupt s) = s.perform [s.sp, s.sp + 1] [] (s.returned.setIME false) := by
  rw [returnFromInterrupt, returnFromCall_eq_readAll, State.perform]
  cases readAll s [s.sp, s.sp + 1] <;> rfl

theorem retIf_eq_perform (cc : Cond) (s : State) :
    retIf cc s = s.perform (if s.cond cc then [s.sp, s.sp + 1] else []) []
      (if s.cond cc then s.returned.charge 12 else s) := by
  rw [retIf, returnFromCall_eq_readAll]
  cases s.cond cc with
  | false => rfl
  | true =>
    simp only [if_true, State.perform]
    cases readAll s [s.sp, s.sp + 1] <;> rfl

/-! ### Operands -/

/-- The addresses an operand is read from (R12). -/
def State.operandLoads (s : State) : Src8 → List Word
  | .reg _ => []
  | .atHL => [s.regs.hl]

/-- The byte an operand reads as. -/
def State.operandByte (s : State) : Src8 → Byte
  | .reg r => s.regs.get r
  | .atHL => s.byteAt s.regs.hl

/-- The CPU after an operand is written: `(HL)` is a byte outside it. -/
def State.withOperand (s : State) (src : Src8) (v : Byte) : State :=
  match src with
  | .reg r => s.setReg r v
  | .atHL => s

/-- An operand is read by its loads. -/
theorem readSrc_eq_readAll (s : State) (src : Src8) :
    readSrc s src = (readAll s (s.operandLoads src)).map fun _ => s.operandByte src := by
  cases src with
  | reg r => rfl
  | atHL =>
    rw [readSrc, State.operandLoads, State.operandByte, readAll]
    cases h : busRead s s.regs.hl with
    | error e => rfl
    | ok v => rw [byteAt_of_busRead h]; rfl

/-- An operand is rewritten by its store, and in the CPU where it is a register. -/
theorem writeSrc_eq_storeAll (s : State) (src : Src8) (new : Byte → Byte) :
    writeSrc s src (new (s.operandByte src)) =
      (storeAll s (s.operandStore src new)).map (·.putCpu (s.withOperand src (new (s.operandByte src)))) := by
  cases src with
  | reg r => rfl
  | atHL =>
    rw [State.operandStore, storeAll_single]
    change busWrite s s.regs.hl (new (s.byteAt s.regs.hl)) = (busWrite s _ _).map (·.putCpu s)
    cases h : busWrite s s.regs.hl (new (s.byteAt s.regs.hl)) with
    | error e => rfl
    | ok t =>
      rw [← storeAll_single] at h
      rw [Except.map, storeAll_putCpu_self h]

theorem aluWith_eq_perform (op : AluOp) (src : Src8) (s : State) :
    aluWith op src s = s.perform (s.operandLoads src) [] (aluState op (s.operandByte src) s) := by
  rw [aluWith, readSrc_eq_readAll, State.perform]
  cases readAll s (s.operandLoads src) <;> rfl

theorem testBit_eq_perform (b : Ix8) (src : Src8) (s : State) :
    testBit b src s = s.perform (s.operandLoads src) []
      (s.setFlags (!(s.operandByte src).getLsbD b.index) false true (s.flag .cy)) := by
  rw [testBit, readSrc_eq_readAll, State.perform]
  cases readAll s (s.operandLoads src) <;> rfl

theorem modifyOperand_eq_perform (src : Src8) (f : Byte → Result8) (s : State) :
    modifyOperand src f s = s.perform (s.operandLoads src) (s.operandStore src fun v => (f v).value)
      ((s.withOperand src (f (s.operandByte src)).value).setResultFlags (f (s.operandByte src))) := by
  rw [modifyOperand, readSrc_eq_readAll, State.perform]
  cases readAll s (s.operandLoads src) with
  | error e => rfl
  | ok x =>
    simp only [Except.map, writeSrc_eq_storeAll s src fun v => (f v).value]
    cases h : storeAll s (s.operandStore src fun v => (f v).value) <;> rfl

theorem replaceOperand_eq_perform (src : Src8) (f : Byte → Byte) (s : State) :
    replaceOperand src f s = s.perform (s.operandLoads src) (s.operandStore src f)
      (s.withOperand src (f (s.operandByte src))) := by
  rw [replaceOperand, readSrc_eq_readAll, State.perform]
  cases readAll s (s.operandLoads src) with
  | error e => rfl
  | ok x => simp only [Except.map, writeSrc_eq_storeAll s src f]

/-! ## The shape of the stores -/

/-- The addresses of two stores of one instruction are next to each other, so that where the first writes a bank
register the second is no external RAM. -/
def Adjacent (a b : Word) : Prop := b = a + 1 ∨ b = a - 1

/-- An instruction stores nothing, one byte, or two bytes next to each other. -/
inductive StoreShape : List (Word × Byte) → Prop
  | nil : StoreShape []
  | single (a : Word) (v : Byte) : StoreShape [(a, v)]
  | pair {a b : Word} (v w : Byte) (h : Adjacent a b) : StoreShape [(a, v), (b, w)]

theorem storeShape_pushed (s : State) (v : Word) : StoreShape (s.pushed v) :=
  .pair _ _ (.inr (by bv_omega))

theorem storeShape_ite {p : Prop} [Decidable p] {l : List (Word × Byte)} (h : StoreShape l) :
    StoreShape (if p then l else []) := by
  split
  · exact h
  · exact .nil

theorem storeShape_operandStore (s : State) (src : Src8) (new : Byte → Byte) :
    StoreShape (s.operandStore src new) := by
  cases src with
  | reg r => exact .nil
  | atHL => exact .single _ _

/-! ## The CPU's part of an instruction -/

/-- The state with other timing parameters and other counts. -/
abbrev State.retimed (s : State) (dma int : Nat) (c : Cycles) : State :=
  { s with params := { s.params with dmaCycles := dma, intDispatchCycles := int }, cycles := c }

/-- The update depends on the timing parameters and the counts in nothing but the counts it leaves. -/
def Untimed (cpu : State → State) : Prop :=
  ∀ s dma int c, ∃ c', cpu (s.retimed dma int c) = (cpu s).retimed dma int c'

theorem cond_retimed (s : State) (cc : Cond) (dma int : Nat) (c : Cycles) :
    (s.retimed dma int c).cond cc = s.cond cc := by
  cases cc <;> rfl

theorem Untimed.ite {taken notTaken : State → State} (cc : Cond) (h1 : Untimed taken) (h2 : Untimed notTaken) :
    Untimed fun s => if s.cond cc then taken s else notTaken s := by
  intro s dma int c
  simp only [cond_retimed]
  cases s.cond cc with
  | false => exact h2 s dma int c
  | true => exact h1 s dma int c

/-- IME, EI_pending and Halted are those of `s`. -/
structure SameMode (s t : State) : Prop where
  ime : t.ime = s.ime
  eiPending : t.eiPending = s.eiPending
  halted : t.halted = s.halted

theorem SameMode.ite {s t u : State} {p : Prop} [Decidable p] (h1 : SameMode s t) (h2 : SameMode s u) :
    SameMode s (if p then t else u) := by
  split <;> assumption

/-- `cpu` is what the instruction makes of the CPU's own state, beside its loads and stores. -/
structure CpuPart (i : Instr) (cpu : State → State) : Prop where
  /-- The instruction is its loads, its stores and this update. -/
  exec_eq : ∀ s, exec i s = s.perform (s.loads i) (s.stores i) (cpu s)
  untimed : Untimed cpu
  /-- Only DI, EI, RETI and HALT write IME, EI_pending and Halted (R37, R38). -/
  ime : i ≠ .di → i ≠ .ei → i ≠ .reti → ∀ s, (cpu s).ime = s.ime
  eiPending : i ≠ .di → i ≠ .ei → ∀ s, (cpu s).eiPending = s.eiPending
  halted : i ≠ .halt → ∀ s, (cpu s).halted = s.halted
  /-- The low nibble of F stays zero (R32). -/
  clean : ∀ s, s.FlagsClean → (cpu s).FlagsClean
  /-- F stays as it was where the row of R48 is empty. -/
  flags : i.wellFormed = true → leavesFlags (encode i) = true → ∀ s, (cpu s).regs.f = s.regs.f
  shape : ∀ s : State, StoreShape (s.stores i)

/-- An instruction whose update leaves the mode and F. -/
theorem CpuPart.keepsF {i : Instr} {cpu : State → State}
    (exec_eq : ∀ s, exec i s = s.perform (s.loads i) (s.stores i) (cpu s))
    (untimed : Untimed cpu := by exact fun _ _ _ _ => ⟨_, rfl⟩)
    (mode : ∀ s, SameMode s (cpu s) := by exact fun _ => ⟨rfl, rfl, rfl⟩)
    (flags : ∀ s, (cpu s).regs.f = s.regs.f := by exact fun _ => rfl)
    (shape : ∀ s : State, StoreShape (s.stores i) := by intro s; constructor) : CpuPart i cpu where
  exec_eq := exec_eq
  untimed := untimed
  ime _ _ _ s := (mode s).ime
  eiPending _ _ s := (mode s).eiPending
  halted _ s := (mode s).halted
  clean s h := by rwa [State.FlagsClean, flags s]
  flags _ _ := flags
  shape := shape

/-- An instruction whose row of R48 is not empty, and whose update leaves the mode. -/
theorem CpuPart.writesF {i : Instr} {cpu : State → State}
    (exec_eq : ∀ s, exec i s = s.perform (s.loads i) (s.stores i) (cpu s)) (row : leavesFlags (encode i) = false)
    (clean : ∀ s, s.FlagsClean → (cpu s).FlagsClean)
    (untimed : Untimed cpu := by exact fun _ _ _ _ => ⟨_, rfl⟩)
    (mode : ∀ s, SameMode s (cpu s) := by exact fun _ => ⟨rfl, rfl, rfl⟩)
    (shape : ∀ s : State, StoreShape (s.stores i) := by intro s; constructor) : CpuPart i cpu where
  exec_eq := exec_eq
  untimed := untimed
  ime _ _ _ s := (mode s).ime
  eiPending _ _ s := (mode s).eiPending
  halted _ s := (mode s).halted
  clean := clean
  flags _ h := absurd (row.symm.trans h) Bool.false_ne_true
  shape := shape

/-! ### F after the writes of flags -/

theorem State.FlagsClean.setFlags {s : State} (h : s.FlagsClean) (z n hc cy : Bool) :
    (s.setFlags z n hc cy).FlagsClean :=
  (withFlags_lowNibble s.regs.f z n hc cy).trans h

theorem State.FlagsClean.setReg {s : State} (h : s.FlagsClean) (r : R8) (v : Byte) : (s.setReg r v).FlagsClean := by
  rwa [State.FlagsClean, State.setReg_regs, Regs.set_f]

theorem State.FlagsClean.setResultFlags {s : State} (h : s.FlagsClean) (r : Result8) :
    (s.setResultFlags r).FlagsClean :=
  h.setFlags r.z r.n r.h r.cy

theorem State.withOperand_f (s : State) (src : Src8) (v : Byte) : (s.withOperand src v).regs.f = s.regs.f := by
  cases src with
  | reg r => exact Regs.set_f s.regs r v
  | atHL => rfl

theorem State.FlagsClean.withOperand {s : State} (h : s.FlagsClean) (src : Src8) (v : Byte) :
    (s.withOperand src v).FlagsClean := by
  rwa [State.FlagsClean, State.withOperand_f]

theorem State.FlagsClean.aluState {s : State} (h : s.FlagsClean) (op : AluOp) (b : Byte) :
    (aluState op b s).FlagsClean :=
  (h.setReg .a _).setResultFlags _

/-! ### The updates of the families with an operand -/

/-- The update of an instruction that rewrites an operand with flags. -/
def modifyCpu (src : Src8) (f : State → Byte → Result8) (s : State) : State :=
  (s.withOperand src (f s (s.operandByte src)).value).setResultFlags (f s (s.operandByte src))

/-- The update of an instruction that replaces an operand without flags. -/
def replaceCpu (src : Src8) (f : Byte → Byte) (s : State) : State := s.withOperand src (f (s.operandByte src))

theorem untimed_modifyCpu (src : Src8) (f : Byte → Bool → Result8) :
    Untimed (modifyCpu src fun s v => f v (s.flag .cy)) := by
  cases src with
  | reg r => exact fun _ _ _ _ => ⟨_, rfl⟩
  | atHL => exact fun _ _ _ _ => ⟨_, rfl⟩

theorem untimed_replaceCpu (src : Src8) (f : Byte → Byte) : Untimed (replaceCpu src f) := by
  cases src with
  | reg r => exact fun _ _ _ _ => ⟨_, rfl⟩
  | atHL => exact fun _ _ _ _ => ⟨_, rfl⟩

theorem sameMode_withOperand (s : State) (src : Src8) (v : Byte) : SameMode s (s.withOperand src v) := by
  cases src <;> exact ⟨rfl, rfl, rfl⟩

theorem sameMode_modifyCpu (src : Src8) (f : State → Byte → Result8) (s : State) : SameMode s (modifyCpu src f s) := by
  cases src <;> exact ⟨rfl, rfl, rfl⟩

theorem untimed_operand (src : Src8) {cpu : Byte → State → State}
    (h : ∀ (s : State) (v : Byte) dma int c, ∃ c', cpu v (s.retimed dma int c) = (cpu v s).retimed dma int c') :
    Untimed fun s => cpu (s.operandByte src) s := by
  intro s dma int c
  have hbyte : (s.retimed dma int c).operandByte src = s.operandByte src := by cases src <;> rfl
  simp only [hbyte]
  exact h s _ dma int c

/-- An instruction that rewrites an operand with flags, from what it loads and stores. -/
theorem CpuPart.modify {i : Instr} {src : Src8} {f : Byte → Bool → Result8}
    (exec_eq : ∀ s, exec i s = modifyOperand src (fun v => f v (s.flag .cy)) s)
    (loads : ∀ s : State, s.loads i = s.operandLoads src)
    (stores : ∀ s : State, s.stores i = s.operandStore src fun v => (f v (s.flag .cy)).value)
    (row : leavesFlags (encode i) = false) : CpuPart i (modifyCpu src fun s v => f v (s.flag .cy)) :=
  .writesF (fun s => by rw [exec_eq, loads, stores]; exact modifyOperand_eq_perform src _ s) row
    (fun _ h => (h.withOperand src _).setResultFlags _) (untimed_modifyCpu src f) (sameMode_modifyCpu src _)
    fun s => stores s ▸ storeShape_operandStore s src _

/-- An instruction that replaces an operand without flags, from what it loads and stores. -/
theorem CpuPart.replace {i : Instr} {src : Src8} {f : Byte → Byte} (exec_eq : ∀ s, exec i s = replaceOperand src f s)
    (loads : ∀ s : State, s.loads i = s.operandLoads src) (stores : ∀ s : State, s.stores i = s.operandStore src f) :
    CpuPart i (replaceCpu src f) :=
  .keepsF (fun s => by rw [exec_eq, loads, stores]; exact replaceOperand_eq_perform src f s)
    (untimed_replaceCpu src f) (fun s => sameMode_withOperand s src _) (fun s => s.withOperand_f src _)
    fun s => stores s ▸ storeShape_operandStore s src _

/-! ### What the families load, and their rows of the table of R48 -/

theorem loads_incSrc (s : State) (src : Src8) : s.loads (.incSrc src) = s.operandLoads src := by
  rcases src with (_ | _ | _ | _ | _ | _ | _) | _ <;> rfl

theorem loads_decSrc (s : State) (src : Src8) : s.loads (.decSrc src) = s.operandLoads src := by
  rcases src with (_ | _ | _ | _ | _ | _ | _) | _ <;> rfl

theorem loads_aluSrc (s : State) (op : AluOp) (src : Src8) : s.loads (.aluSrc op src) = s.operandLoads src := by
  cases op <;> rcases src with (_ | _ | _ | _ | _ | _ | _) | _ <;> rfl

theorem loads_rotSrc (s : State) (op : RotOp) (src : Src8) : s.loads (.rotSrc op src) = s.operandLoads src := by
  cases op <;> rcases src with (_ | _ | _ | _ | _ | _ | _) | _ <;> rfl

theorem loads_bitSrc (s : State) (b : Ix8) (src : Src8) : s.loads (.bitSrc b src) = s.operandLoads src := by
  cases b <;> rcases src with (_ | _ | _ | _ | _ | _ | _) | _ <;> rfl

theorem loads_resSrc (s : State) (b : Ix8) (src : Src8) : s.loads (.resSrc b src) = s.operandLoads src := by
  cases b <;> rcases src with (_ | _ | _ | _ | _ | _ | _) | _ <;> rfl

theorem loads_setSrc (s : State) (b : Ix8) (src : Src8) : s.loads (.setSrc b src) = s.operandLoads src := by
  cases b <;> rcases src with (_ | _ | _ | _ | _ | _ | _) | _ <;> rfl

theorem leavesFlags_incSrc (src : Src8) : leavesFlags (encode (.incSrc src)) = false := by
  rcases src with (_ | _ | _ | _ | _ | _ | _) | _ <;> rfl

theorem leavesFlags_decSrc (src : Src8) : leavesFlags (encode (.decSrc src)) = false := by
  rcases src with (_ | _ | _ | _ | _ | _ | _) | _ <;> rfl

theorem leavesFlags_aluSrc (op : AluOp) (src : Src8) : leavesFlags (encode (.aluSrc op src)) = false := by
  cases op <;> rcases src with (_ | _ | _ | _ | _ | _ | _) | _ <;> rfl

theorem leavesFlags_rotSrc (op : RotOp) (src : Src8) : leavesFlags (encode (.rotSrc op src)) = false := by
  cases op <;> rcases src with (_ | _ | _ | _ | _ | _ | _) | _ <;> rfl

theorem leavesFlags_bitSrc (b : Ix8) (src : Src8) : leavesFlags (encode (.bitSrc b src)) = false := by
  cases b <;> rcases src with (_ | _ | _ | _ | _ | _ | _) | _ <;> rfl

/-! ### The `0xCB` page -/

theorem rotSrc_cpuPart (op : RotOp) (src : Src8) :
    CpuPart (.rotSrc op src) (modifyCpu src fun s v => rot8 op v (s.flag .cy)) :=
  .modify (f := rot8 op) (exec_rotSrc op src) (loads_rotSrc · op src) (fun s => (costs_rotSrc s op src).2)
    (leavesFlags_rotSrc op src)

theorem bitSrc_cpuPart (b : Ix8) (src : Src8) :
    CpuPart (.bitSrc b src)
      fun s => s.setFlags (!(s.operandByte src).getLsbD b.index) false true (s.flag .cy) :=
  .writesF
    (fun s => by rw [exec_bitSrc, loads_bitSrc, (costs_bitSrc s b src).2]; exact testBit_eq_perform b src s)
    (leavesFlags_bitSrc b src) (fun _ h => h.setFlags _ _ _ _)
    (untimed_operand src (cpu := fun v s => s.setFlags (!v.getLsbD b.index) false true (s.flag .cy))
      fun _ _ _ _ _ => ⟨_, rfl⟩)
    (shape := fun s => (costs_bitSrc s b src).2 ▸ .nil)

theorem resSrc_cpuPart (b : Ix8) (src : Src8) : CpuPart (.resSrc b src) (replaceCpu src (clearBit8 b)) :=
  .replace (exec_resSrc b src) (loads_resSrc · b src) (fun s => (costs_resSrc s b src).2)

theorem setSrc_cpuPart (b : Ix8) (src : Src8) : CpuPart (.setSrc b src) (replaceCpu src (setBit8 b)) :=
  .replace (exec_setSrc b src) (loads_setSrc · b src) (fun s => (costs_setSrc s b src).2)

theorem r8Table_eq_atHL_iff {z : Nat} : r8Table z = .atHL ↔ z = 6 := by
  unfold r8Table
  split <;> simp_all

theorem operandLoads_r8Table (s : State) (z : Nat) :
    s.operandLoads (r8Table z) = if z = 6 then [s.regs.hl] else [] := by
  simp only [← r8Table_eq_atHL_iff]
  cases r8Table z <;> simp [State.operandLoads]

theorem loads_prefixCB (s : State) (second : Byte) : s.loads (.prefixCB second) = s.loads (decodeCB second) := by
  change (if fieldZ second = 6 then [s.regs.hl] else []) = _
  rw [← operandLoads_r8Table]
  unfold decodeCB
  split
  · exact (loads_rotSrc s _ _).symm
  · exact (loads_bitSrc s _ _).symm
  · exact (loads_resSrc s _ _).symm
  · exact (loads_setSrc s _ _).symm

/-- An instruction of the page is none of the four that write IME, EI_pending or Halted. -/
theorem decodeCB_ne_system (second : Byte) :
    decodeCB second ≠ .di ∧ decodeCB second ≠ .ei ∧ decodeCB second ≠ .reti ∧ decodeCB second ≠ .halt := by
  refine decodeCB_byFamily (P := fun i => i ≠ .di ∧ i ≠ .ei ∧ i ≠ .reti ∧ i ≠ .halt) (fun op src => ?rotSrc)
    (fun b src => ?bitSrc) (fun b src => ?resSrc) (fun b src => ?setSrc) second
  case rotSrc => cases op <;> rcases src with (_ | _ | _ | _ | _ | _ | _) | _ <;> decide
  case bitSrc => cases b <;> rcases src with (_ | _ | _ | _ | _ | _ | _) | _ <;> decide
  case resSrc => cases b <;> rcases src with (_ | _ | _ | _ | _ | _ | _) | _ <;> decide
  case setSrc => cases b <;> rcases src with (_ | _ | _ | _ | _ | _ | _) | _ <;> decide

/-- The row of `0xCB` has the CPU's part of the instruction its second byte selects. -/
theorem CpuPart.prefixCB {second : Byte} {cpu : State → State} (h : CpuPart (decodeCB second) cpu) :
    CpuPart (.prefixCB second) cpu where
  exec_eq s := by rw [exec_prefixCB_eq_decodeCB, loads_prefixCB, (costs_prefixCB s second).2, h.exec_eq]
  untimed := h.untimed
  ime _ _ _ := h.ime (decodeCB_ne_system second).1 (decodeCB_ne_system second).2.1 (decodeCB_ne_system second).2.2.1
  eiPending _ _ := h.eiPending (decodeCB_ne_system second).1 (decodeCB_ne_system second).2.1
  halted _ := h.halted (decodeCB_ne_system second).2.2.2
  clean := h.clean
  flags hwf := absurd hwf Bool.false_ne_true
  shape s := (costs_prefixCB s second).2 ▸ h.shape s

/-! ### The forms of the families -/

/-- The instruction stops whatever the state is: STOP or an undefined opcode (R371, R375). -/
def AlwaysStops (i : Instr) : Prop := (∃ n, i = .stop n) ∨ ∃ op, i.undefinedByte = some op

/-- An instruction that neither loads nor stores, and leaves the mode and F. -/
theorem CpuPart.keepsF_next {i : Instr} {cpu : State → State} (exec_eq : ∀ s, exec i s = .next (cpu s))
    (access : ∀ s : State, s.loads i = [] ∧ s.stores i = [] := by exact fun _ => ⟨rfl, rfl⟩)
    (outside : ∀ s : State, s.putCpu (cpu s) = cpu s := by exact fun _ => rfl)
    (untimed : Untimed cpu := by exact fun _ _ _ _ => ⟨_, rfl⟩)
    (mode : ∀ s, SameMode s (cpu s) := by exact fun _ => ⟨rfl, rfl, rfl⟩)
    (flags : ∀ s, (cpu s).regs.f = s.regs.f := by exact fun _ => rfl) : CpuPart i cpu :=
  .keepsF (fun s => by rw [exec_eq, (access s).1, (access s).2]; exact next_eq_perform (outside s)) untimed mode flags
    fun s => (access s).2 ▸ .nil

/-- An instruction that neither loads nor stores, leaves the mode and writes flags. -/
theorem CpuPart.writesF_next {i : Instr} {cpu : State → State} (exec_eq : ∀ s, exec i s = .next (cpu s))
    (row : leavesFlags (encode i) = false) (clean : ∀ s, s.FlagsClean → (cpu s).FlagsClean)
    (access : ∀ s : State, s.loads i = [] ∧ s.stores i = [] := by exact fun _ => ⟨rfl, rfl⟩)
    (outside : ∀ s : State, s.putCpu (cpu s) = cpu s := by exact fun _ => rfl)
    (untimed : Untimed cpu := by exact fun _ _ _ _ => ⟨_, rfl⟩)
    (mode : ∀ s, SameMode s (cpu s) := by exact fun _ => ⟨rfl, rfl, rfl⟩) : CpuPart i cpu :=
  .writesF (fun s => by rw [exec_eq, (access s).1, (access s).2]; exact next_eq_perform (outside s)) row clean untimed
    mode fun s => (access s).2 ▸ .nil

/-- An instruction that writes a pair of `rp` and nothing else. -/
theorem CpuPart.setRp {i : Instr} {rr : Rp} {v : State → Word} (exec_eq : ∀ s, exec i s = .next (s.setRp rr (v s)))
    (access : ∀ s : State, s.loads i = [] ∧ s.stores i = [])
    (untimed : ∀ s dma int c, v (s.retimed dma int c) = v s) : CpuPart i fun s => s.setRp rr (v s) :=
  .keepsF_next exec_eq access (fun s => by cases rr <;> rfl)
    (fun s dma int c => by simp only [untimed]; cases rr <;> exact ⟨_, rfl⟩)
    (fun s => by cases rr <;> exact ⟨rfl, rfl, rfl⟩) fun s => s.setRp_f rr _

theorem getRp_retimed (s : State) (rr : Rp) (dma int : Nat) (c : Cycles) :
    (s.retimed dma int c).getRp rr = s.getRp rr := by
  cases rr <;> rfl

/-- A conditional transfer, from what it loads and stores when it is taken. -/
theorem CpuPart.conditional {i : Instr} {cc : Cond} {loads : State → List Word}
    {stores : State → List (Word × Byte)} {taken : State → State}
    (exec_eq : ∀ s, exec i s = s.perform (if s.cond cc then loads s else []) (if s.cond cc then stores s else [])
      (if s.cond cc then taken s else s))
    (access : ∀ s : State, s.loads i = (if s.cond cc then loads s else []) ∧
      s.stores i = if s.cond cc then stores s else [])
    (shape : ∀ s, StoreShape (stores s)) (untimed : Untimed taken) (mode : ∀ s, SameMode s (taken s))
    (flags : ∀ s, (taken s).regs.f = s.regs.f) :
    CpuPart i fun s => if s.cond cc then taken s else s :=
  .keepsF (fun s => by rw [exec_eq, (access s).1, (access s).2]) (.ite cc untimed fun _ _ _ c => ⟨c, rfl⟩)
    (fun s => .ite (mode s) ⟨rfl, rfl, rfl⟩) (fun s => by split <;> simp only [flags])
    fun s => (access s).2 ▸ storeShape_ite (shape s)

theorem CpuPart.jumpIf {i : Instr} {cc : Cond} {target : State → Word}
    (exec_eq : ∀ s, exec i s = jumpIf cc (target s) s) (access : ∀ s : State, s.loads i = [] ∧ s.stores i = [])
    (untimed : ∀ s dma int c, target (s.retimed dma int c) = target s) :
    CpuPart i fun s => if s.cond cc then (s.setPC (target s)).charge 4 else s :=
  .conditional (loads := fun _ => []) (stores := fun _ => [])
    (fun s => by rw [exec_eq, jumpIf_eq_perform, ite_self, ite_self])
    (fun s => by rw [(access s).1, (access s).2, ite_self, ite_self]; exact ⟨rfl, rfl⟩) (fun _ => .nil)
    (fun s dma int c => by simp only [untimed]; exact ⟨_, rfl⟩) (fun _ => ⟨rfl, rfl, rfl⟩) fun _ => rfl

/-- A load of A at HL with HL stepped (R216, R217). -/
theorem CpuPart.ldAMemHL {i : Instr} {step : Word} (exec_eq : ∀ s, exec i s = ldAMemHL step s)
    (access : ∀ s : State, s.loads i = [s.regs.hl] ∧ s.stores i = []) :
    CpuPart i fun s => (s.setReg .a (s.byteAt s.regs.hl)).setHL (s.regs.hl + step) :=
  .keepsF (fun s => by rw [exec_eq, (access s).1, (access s).2, ldAMemHL_eq_perform])
    (shape := fun s => (access s).2 ▸ .nil)

/-- A store of A at HL with HL stepped (R218, R219). -/
theorem CpuPart.ldMemHLA {i : Instr} {step : Word} (exec_eq : ∀ s, exec i s = ldMemHLA step s)
    (access : ∀ s : State, s.loads i = [] ∧ s.stores i = [(s.regs.hl, s.regs.a)]) :
    CpuPart i fun s => s.setHL (s.regs.hl + step) :=
  .keepsF (fun s => by rw [exec_eq, (access s).1, (access s).2, ldMemHLA_eq_perform])
    (shape := fun s => (access s).2 ▸ .single _ _)

theorem daa_cpuPart : CpuPart .daa fun s => storeA s (daa8 s.regs.a (s.flag .n) (s.flag .h) (s.flag .cy)) :=
  .writesF_next exec_daa rfl fun _ h => (h.setReg .a _).setResultFlags _

theorem rotateA_cpuPart {i : Instr} {op : RotOp} (exec_eq : ∀ s, exec i s = rotateA op s)
    (row : leavesFlags (encode i) = false) (access : ∀ s : State, s.loads i = [] ∧ s.stores i = []) :
    CpuPart i fun s => storeA s (rotA8 op s.regs.a (s.flag .cy)) :=
  .writesF_next exec_eq row (fun _ h => (h.setReg .a _).setResultFlags _) access

theorem popRp_cpuPart (rr : Rp2) : ∃ cpu, CpuPart (.popRp rr) cpu := by
  cases rr with
  | af => exact ⟨_, .writesF (popPair_eq_perform .af) rfl fun s _ => maskF0_lowNibble (loByte s.stackWord)⟩
  | bc => exact ⟨_, .keepsF (popPair_eq_perform .bc)⟩
  | de => exact ⟨_, .keepsF (popPair_eq_perform .de)⟩
  | hl => exact ⟨_, .keepsF (popPair_eq_perform .hl)⟩

theorem pushRp_cpuPart (rr : Rp2) : CpuPart (.pushRp rr) fun s => s.setSP (s.sp - 2) :=
  .keepsF (fun s => by rw [exec_pushRp, pushPair_eq_perform]; cases rr <;> rfl)
    (shape := fun s => by cases rr <;> exact storeShape_pushed s _)

/-! ### The four instructions that write IME, EI_pending or Halted -/

theorem reti_cpuPart : CpuPart .reti fun s => s.returned.setIME false where
  exec_eq := returnFromInterrupt_eq_perform
  untimed _ _ _ _ := ⟨_, rfl⟩
  ime _ _ h := absurd rfl h
  eiPending _ _ _ := rfl
  halted _ _ := rfl
  clean _ h := h
  flags _ _ _ := rfl
  shape _ := .nil

theorem halt_cpuPart : CpuPart .halt fun s => { s with halted := true } where
  exec_eq _ := next_eq_perform rfl
  untimed _ _ _ _ := ⟨_, rfl⟩
  ime _ _ _ _ := rfl
  eiPending _ _ _ := rfl
  halted h := absurd rfl h
  clean _ h := h
  flags _ _ _ := rfl
  shape _ := .nil

theorem di_cpuPart :
    CpuPart .di fun s => { s with ime := false, eiPending := if s.params.eiDelay then false else s.eiPending } where
  exec_eq _ := next_eq_perform rfl
  untimed _ _ _ _ := ⟨_, rfl⟩
  ime h := absurd rfl h
  eiPending h := absurd rfl h
  halted _ _ := rfl
  clean _ h := h
  flags _ _ _ := rfl
  shape _ := .nil

theorem ei_cpuPart :
    CpuPart .ei fun s => { s with
      ime := if s.params.eiDelay then s.ime else true
      eiPending := if s.params.eiDelay then true else s.eiPending } where
  exec_eq _ := next_eq_perform rfl
  untimed _ _ _ _ := ⟨_, rfl⟩
  ime _ h := absurd rfl h
  eiPending _ h := absurd rfl h
  halted _ _ := rfl
  clean _ h := h
  flags _ _ _ := rfl
  shape _ := .nil

/-! ### Every instruction -/

/-- Every instruction but STOP and the undefined opcodes is its loads, its stores and an update of the CPU. -/
theorem exists_cpuPart (i : Instr) : AlwaysStops i ∨ ∃ cpu, CpuPart i cpu := by
  induction i using Instr.byFamily with
  | nop => exact .inr ⟨id, .keepsF_next exec_nop⟩
  | ldMNNSP nn => exact .inr ⟨_, .keepsF (ldMemSP_eq_perform nn) (shape := fun _ => .pair _ _ (.inl rfl))⟩
  | stop n => exact .inl (.inl ⟨n, rfl⟩)
  | jrRel e => exact .inr ⟨_, .keepsF_next (exec_jrRel e)⟩
  | jrCond cc e =>
    exact .inr ⟨_, .jumpIf (exec_jrCond cc e) (fun s => by cases cc <;> exact ⟨rfl, rfl⟩) fun _ _ _ _ => rfl⟩
  | ldRpNN rr nn =>
    exact .inr ⟨_, .setRp (exec_ldRpNN rr nn) (fun s => by cases rr <;> exact ⟨rfl, rfl⟩) fun _ _ _ _ => rfl⟩
  | addHLRp rr =>
    refine .inr ⟨_, .writesF_next (exec_addHLRp rr) (by cases rr <;> rfl) (fun _ h => h.setFlags _ _ _ _)
      (fun s => by cases rr <;> exact ⟨rfl, rfl⟩) (fun _ => rfl) fun s dma int c => ?_⟩
    simp only [getRp_retimed]
    exact ⟨_, rfl⟩
  | ldMBCA => exact .inr ⟨_, .keepsF fun s => ldMemReg_eq_perform s.regs.bc .a s⟩
  | ldMDEA => exact .inr ⟨_, .keepsF fun s => ldMemReg_eq_perform s.regs.de .a s⟩
  | ldMHLIncA => exact .inr ⟨_, .ldMemHLA exec_ldMHLIncA fun _ => ⟨rfl, rfl⟩⟩
  | ldMHLDecA => exact .inr ⟨_, .ldMemHLA exec_ldMHLDecA fun _ => ⟨rfl, rfl⟩⟩
  | ldAMBC => exact .inr ⟨_, .keepsF fun s => ldRegMem_eq_perform .a s.regs.bc s⟩
  | ldAMDE => exact .inr ⟨_, .keepsF fun s => ldRegMem_eq_perform .a s.regs.de s⟩
  | ldAMHLInc => exact .inr ⟨_, .ldAMemHL exec_ldAMHLInc fun _ => ⟨rfl, rfl⟩⟩
  | ldAMHLDec => exact .inr ⟨_, .ldAMemHL exec_ldAMHLDec fun _ => ⟨rfl, rfl⟩⟩
  | incRp rr =>
    exact .inr ⟨_, .setRp (exec_incRp rr) (fun s => by cases rr <;> exact ⟨rfl, rfl⟩) fun s dma int c => by
      rw [getRp_retimed]⟩
  | decRp rr =>
    exact .inr ⟨_, .setRp (exec_decRp rr) (fun s => by cases rr <;> exact ⟨rfl, rfl⟩) fun s dma int c => by
      rw [getRp_retimed]⟩
  | incSrc src =>
    exact .inr ⟨_, .modify (f := inc8) (exec_incSrc src) (loads_incSrc · src) (fun s => (costs_incSrc s src).2)
      (leavesFlags_incSrc src)⟩
  | decSrc src =>
    exact .inr ⟨_, .modify (f := dec8) (exec_decSrc src) (loads_decSrc · src) (fun s => (costs_decSrc s src).2)
      (leavesFlags_decSrc src)⟩
  | ldSrcN_reg dst n =>
    exact .inr ⟨_, .keepsF_next (exec_ldSrcN_reg dst n) (fun s => by cases dst <;> exact ⟨rfl, rfl⟩)
      (flags := fun s => s.regs.set_f dst n)⟩
  | ldSrcN_atHL n => exact .inr ⟨_, .keepsF fun s => busWrite_eq_perform s s.regs.hl n⟩
  | rlca => exact .inr ⟨_, rotateA_cpuPart exec_rlca rfl fun _ => ⟨rfl, rfl⟩⟩
  | rrca => exact .inr ⟨_, rotateA_cpuPart exec_rrca rfl fun _ => ⟨rfl, rfl⟩⟩
  | rla => exact .inr ⟨_, rotateA_cpuPart exec_rla rfl fun _ => ⟨rfl, rfl⟩⟩
  | rra => exact .inr ⟨_, rotateA_cpuPart exec_rra rfl fun _ => ⟨rfl, rfl⟩⟩
  | daa => exact .inr ⟨_, daa_cpuPart⟩
  | cpl => exact .inr ⟨_, .writesF_next exec_cpl rfl fun _ h => (h.setReg .a _).setFlags _ _ _ _⟩
  | scf => exact .inr ⟨_, .writesF_next exec_scf rfl fun _ h => h.setFlags _ _ _ _⟩
  | ccf => exact .inr ⟨_, .writesF_next exec_ccf rfl fun _ h => h.setFlags _ _ _ _⟩
  | ldRR dst src =>
    exact .inr ⟨_, .keepsF_next (exec_ldRR dst src) (fun s => by cases dst <;> cases src <;> exact ⟨rfl, rfl⟩)
      (flags := fun s => s.regs.set_f dst _)⟩
  | ldRMHL dst =>
    refine .inr ⟨_, .keepsF (cpu := fun s => s.setReg dst (s.byteAt s.regs.hl)) (fun s => ?_)
      (flags := fun s => s.regs.set_f dst _) (shape := fun s => by cases dst <;> exact .nil)⟩
    rw [exec_ldRMHL, ldRegMem_eq_perform]
    cases dst <;> rfl
  | ldMHLR src =>
    refine .inr ⟨id, .keepsF (fun s => ?_) (shape := fun s => by cases src <;> exact .single _ _)⟩
    rw [exec_ldMHLR, ldMemReg_eq_perform]
    cases src <;> rfl
  | halt => exact .inr ⟨_, halt_cpuPart⟩
  | aluSrc op src =>
    refine .inr ⟨_, .writesF (fun s => ?_) (leavesFlags_aluSrc op src) (fun _ h => h.aluState op _)
      (untimed_operand src (cpu := aluState op) fun _ _ _ _ _ => ⟨_, rfl⟩)
      (shape := fun s => (costs_aluSrc s op src).2 ▸ .nil)⟩
    rw [exec_aluSrc, loads_aluSrc, (costs_aluSrc s op src).2, aluWith_eq_perform]
  | aluN op n =>
    exact .inr ⟨_, .writesF_next (exec_aluN op n) (by cases op <;> rfl) (fun _ h => h.aluState op n)
      fun s => by cases op <;> exact ⟨rfl, rfl⟩⟩
  | retCond cc =>
    exact .inr ⟨_, .conditional (cc := cc) (loads := fun s => [s.sp, s.sp + 1]) (stores := fun _ => [])
      (taken := fun s => s.returned.charge 12)
      (fun s => by rw [exec_retCond, retIf_eq_perform, ite_self])
      (fun s => by rw [ite_self]; cases cc <;> exact ⟨rfl, rfl⟩)
      (fun _ => .nil) (fun _ _ _ _ => ⟨_, rfl⟩) (fun _ => ⟨rfl, rfl, rfl⟩) fun _ => rfl⟩
  | ldhMNA n => exact .inr ⟨_, .keepsF fun s => ldMemReg_eq_perform (highPage n) .a s⟩
  | ldhAMN n => exact .inr ⟨_, .keepsF fun s => ldRegMem_eq_perform .a (highPage n) s⟩
  | ldMCA => exact .inr ⟨_, .keepsF fun s => ldMemReg_eq_perform (highPage s.regs.c) .a s⟩
  | ldAMC => exact .inr ⟨_, .keepsF fun s => ldRegMem_eq_perform .a (highPage s.regs.c) s⟩
  | ldMNNA nn => exact .inr ⟨_, .keepsF fun s => ldMemReg_eq_perform nn .a s⟩
  | ldAMNN nn => exact .inr ⟨_, .keepsF fun s => ldRegMem_eq_perform .a nn s⟩
  | addSPRel e => exact .inr ⟨_, .writesF_next (exec_addSPRel e) rfl fun _ h => h.setFlags _ _ _ _⟩
  | ldHLSPRel e => exact .inr ⟨_, .writesF_next (exec_ldHLSPRel e) rfl fun _ h => h.setFlags _ _ _ _⟩
  | popRp rr => exact .inr (popRp_cpuPart rr)
  | pushRp rr => exact .inr ⟨_, pushRp_cpuPart rr⟩
  | ret => exact .inr ⟨_, .keepsF returnFromCall_eq_perform⟩
  | reti => exact .inr ⟨_, reti_cpuPart⟩
  | jpHL => exact .inr ⟨_, .keepsF_next exec_jpHL⟩
  | ldSPHL => exact .inr ⟨_, .keepsF_next exec_ldSPHL⟩
  | jpCond cc nn =>
    exact .inr ⟨_, .jumpIf (exec_jpCond cc nn) (fun s => by cases cc <;> exact ⟨rfl, rfl⟩) fun _ _ _ _ => rfl⟩
  | jpNN nn => exact .inr ⟨_, .keepsF_next (exec_jpNN nn)⟩
  | callCond cc nn =>
    exact .inr ⟨_, .conditional (cc := cc) (loads := fun _ => []) (stores := fun s => s.pushed s.pc)
      (taken := fun s => (s.called nn).charge 12)
      (fun s => by rw [exec_callCond, callIf_eq_perform, ite_self])
      (fun s => by rw [ite_self]; cases cc <;> exact ⟨rfl, rfl⟩)
      (fun s => storeShape_pushed s _) (fun _ _ _ _ => ⟨_, rfl⟩) (fun _ => ⟨rfl, rfl, rfl⟩) fun _ => rfl⟩
  | callNN nn => exact .inr ⟨_, .keepsF (callTo_eq_perform nn) (shape := fun s => storeShape_pushed s _)⟩
  | rstY y =>
    refine .inr ⟨_, .keepsF (cpu := (·.called (rstTarget y))) (fun s => ?_)
      (shape := fun s => by cases y <;> exact storeShape_pushed s _)⟩
    rw [exec_rstY, callTo_eq_perform]
    cases y <;> rfl
  | di => exact .inr ⟨_, di_cpuPart⟩
  | ei => exact .inr ⟨_, ei_cpuPart⟩
  | prefixCB second =>
    obtain ⟨cpu, h⟩ := decodeCB_byFamily (P := fun i => ∃ cpu, CpuPart i cpu)
      (fun op src => ⟨_, rotSrc_cpuPart op src⟩) (fun b src => ⟨_, bitSrc_cpuPart b src⟩)
      (fun b src => ⟨_, resSrc_cpuPart b src⟩) (fun b src => ⟨_, setSrc_cpuPart b src⟩) second
    exact .inr ⟨cpu, h.prefixCB⟩
  | rotSrc op src => exact .inr ⟨_, rotSrc_cpuPart op src⟩
  | bitSrc b src => exact .inr ⟨_, bitSrc_cpuPart b src⟩
  | resSrc b src => exact .inr ⟨_, resSrc_cpuPart b src⟩
  | setSrc b src => exact .inr ⟨_, setSrc_cpuPart b src⟩
  | undefined i op h => exact .inl (.inr ⟨op, h⟩)

/-! ## What an execution leaves, and where it completes -/

/-- An instruction that always stops answers no state. -/
theorem AlwaysStops.exec {i : Instr} (h : AlwaysStops i) (s : State) :
    ∃ e, exec i s = .fault e ∧ ((∃ op, e = .undefinedOpcode op) ∨ ∃ a, e = .unmodelledStop a) := by
  rcases h with ⟨n, rfl⟩ | ⟨op, hop⟩
  · exact ⟨_, exec_stop n s, .inr ⟨_, rfl⟩⟩
  · exact ⟨_, exec_undefined hop s, .inl ⟨op, rfl⟩⟩

/-- What an instruction that answers a state has done: its loads and stores succeeded, and the rest is the update of the
CPU. -/
theorem exec_next {i : Instr} {s t : State} (h : exec i s = .next t) :
    ∃ cpu u, CpuPart i cpu ∧ storeAll s (s.stores i) = .ok u ∧ t = u.putCpu (cpu s) := by
  rcases exists_cpuPart i with hstop | ⟨cpu, hc⟩
  · obtain ⟨e, he, -⟩ := hstop.exec s
    rw [he] at h
    cases h
  · rw [hc.exec_eq, State.perform_next] at h
    obtain ⟨-, u, hu, ht⟩ := h
    exact ⟨cpu, u, hc, hu, ht⟩

/-- Settles O42: the stores of the one form every instruction has, and the update, which is of the CPU alone. -/
theorem instructionsStoreWhatTheyShould : Obligations.InstructionsStoreWhatTheyShould := by
  unfold Obligations.InstructionsStoreWhatTheyShould
  intro i s t h
  obtain ⟨cpu, u, -, hu, rfl⟩ := exec_next h
  exact ⟨u, hu, rfl⟩

/-- A read that no store of a list can change gives after them what it gave before. -/
theorem busRead_of_storeAll {l : List (Word × Byte)} {s t : State} {a : Word} (h : storeAll s l = .ok t)
    (hl : ∀ p ∈ l, ¬ canChange p.1 a) : busRead t a = busRead s a := by
  induction l generalizing s with
  | nil => cases h; rfl
  | cons p rest ih =>
    rw [storeAll_cons] at h
    cases hb : busWrite s p.1 p.2 with
    | error e => rw [hb] at h; cases h
    | ok u =>
      rw [hb] at h
      rw [ih h fun q hq => hl q (List.mem_cons_of_mem _ hq), busRead_of_busWrite hb (hl p List.mem_cons_self)]

/-- Settles O43: the stores change only their bytes, and the update of the CPU changes no read. -/
theorem instructionsChangeOnlyStoredBytes : Obligations.InstructionsChangeOnlyStoredBytes := by
  unfold Obligations.InstructionsChangeOnlyStoredBytes
  intro i s t a h hstores
  obtain ⟨cpu, u, -, hu, rfl⟩ := exec_next h
  rw [busRead_putCpu, busRead_of_storeAll hu hstores]

/-- Settles O45: the update of an instruction whose row is empty leaves F, and no store writes it. -/
theorem flagsAreWrittenOnlyByTheirInstructions : Obligations.FlagsAreWrittenOnlyByTheirInstructions := by
  unfold Obligations.FlagsAreWrittenOnlyByTheirInstructions
  intro i s t hwf hrow h
  obtain ⟨cpu, u, hc, -, rfl⟩ := exec_next h
  exact hc.flags hwf hrow s

/-! ### Completion -/

theorem readAll_of_accessible {l : List Word} {s : State} (h : ∀ a ∈ l, s.Accessible a) : readAll s l = .ok () := by
  induction l with
  | nil => rfl
  | cons a rest ih =>
    rw [readAll, busRead_of_accessible (h a List.mem_cons_self)]
    exact ih fun b hb => h b (List.mem_cons_of_mem _ hb)

/-- A write below `0x8000` is the only one that changes a bank register. -/
theorem busWrite_mbc_of_not_rom {s t : State} {a : Word} {v : Byte} (ha : ¬ a.toNat ≤ 0x7FFF)
    (h : busWrite s a v = .ok t) : t.mbc = s.mbc := by
  have hr := route_inv a
  unfold busWrite at h
  cases hk : route a with
  | romFixed i => simp only [hk] at hr; omega
  | romSwitch i => simp only [hk] at hr; omega
  | dmaTrigger =>
    have hp : periphAddress a := by simp only [hk] at hr; omega
    have h' : busWrite s a v = .ok t := by unfold busWrite; exact h
    rw [busWrite_periph_frame hp h']
  | extRam i =>
    simp only [hk] at h
    rcases he : s.extRamAccess a i with e | (_ | k) <;> (rw [he] at h; cases h <;> rfl)
  | hole => simp [hk] at h
  | _ => simp only [hk] at h; cases h; rfl

/-- What is accessible depends on the bank registers and the size of the RAM alone. -/
theorem accessible_congr {s t : State} (hm : t.mbc = s.mbc) (hc : t.ramSizeCode = s.ramSizeCode) (a : Word) :
    t.Accessible a ↔ s.Accessible a := by
  simp only [State.Accessible, State.numRamBanks, State.ramBank, State.ramLength, hm, hc]

/-- An address outside the hole and outside external RAM is accessible in every state. -/
theorem accessible_of_region (s : State) {a : Word} (h : ¬ (0xFF4C ≤ a.toNat ∧ a.toNat ≤ 0xFF7F))
    (h' : ¬ (0xA000 ≤ a.toNat ∧ a.toNat ≤ 0xBFFF)) : s.Accessible a :=
  ⟨h, fun h1 h2 => absurd ⟨h1, h2⟩ h'⟩

/-- After a store an address next to it is writable where it was. -/
theorem writable_of_adjacent {s t : State} {a b : Word} {v w : Byte} (hab : Adjacent a b)
    (h : busWrite s a v = .ok t) (hb : s.Writable b w) : t.Writable b w := by
  by_cases ha : a.toNat ≤ 0x7FFF
  · have hbound : b.toNat ≤ 0x8000 ∨ b.toNat = 0xFFFF := by
      rcases hab with rfl | rfl <;> bv_omega
    refine ⟨accessible_of_region t (by omega) (by omega), fun hdma => ?_⟩
    rw [hdma, show (0xFF46 : Word).toNat = 0xFF46 from rfl] at hbound
    omega
  · have hsame (c : Word) : t.Accessible c ↔ s.Accessible c :=
      accessible_congr (busWrite_mbc_of_not_rom ha h) (busWrite_ramSizeCode h) c
    exact ⟨(hsame b).mpr hb.1, fun hdma i hi => (hsame _).mpr (hb.2 hdma i hi)⟩

/-- The stores of an instruction complete where each of them is writable at the start. -/
theorem storeAll_of_writable {l : List (Word × Byte)} {s : State} (shape : StoreShape l)
    (h : ∀ p ∈ l, s.Writable p.1 p.2) : ∃ t, storeAll s l = .ok t := by
  cases shape with
  | nil => exact ⟨s, rfl⟩
  | single a v =>
    rw [storeAll_single]
    exact busWrite_ok_iff.mpr (h (a, v) List.mem_cons_self)
  | @pair a b v w hab =>
    obtain ⟨t, ht⟩ := busWrite_ok_iff.mpr (h (a, v) List.mem_cons_self)
    obtain ⟨u, hu⟩ := busWrite_ok_iff.mpr
      (writable_of_adjacent hab ht (h (b, w) (List.mem_cons_of_mem _ List.mem_cons_self)))
    exact ⟨u, by rw [storeAll_cons, ht, Except.bind, storeAll_single, hu]⟩

/-- Settles O44: the loads and the stores of the one form every instruction has all succeed. -/
theorem everyInstructionCompletes : Obligations.EveryInstructionCompletes := by
  unfold Obligations.EveryInstructionCompletes
  intro i s hstop hundef hloads hstores
  rcases exists_cpuPart i with (⟨n, hn⟩ | ⟨op, hop⟩) | ⟨cpu, hc⟩
  · exact absurd hn (hstop n)
  · exact absurd (hundef.symm.trans hop) (Option.some_ne_none op).symm
  · obtain ⟨u, hu⟩ := storeAll_of_writable (hc.shape s) hstores
    exact ⟨u.putCpu (cpu s), (hc.exec_eq s).trans
      (State.perform_next.mpr ⟨readAll_of_accessible hloads, u, hu, rfl⟩)⟩

end Sys2Proof.Machine
end

section
/-! PROOFS. What every step keeps (spec/10_state.md R32, R37, R38, R41, R44, R45), the taking of an interrupt as stores
and an update of the CPU (spec/60_exceptions.md R411), and the end of a program (R372, R462). -/

namespace Sys2Proof.Machine

/-! ## What a list of stores keeps -/

/-- The ROM, the header's size codes and the parameters are those of `s`: no step writes them (R9, R45). -/
structure SameConfig (s t : State) : Prop where
  rom : t.rom = s.rom
  romSizeCode : t.romSizeCode = s.romSizeCode
  ramSizeCode : t.ramSizeCode = s.ramSizeCode
  params : t.params = s.params

theorem SameConfig.refl (s : State) : SameConfig s s := ⟨rfl, rfl, rfl, rfl⟩

theorem SameConfig.trans {s t u : State} (h1 : SameConfig s t) (h2 : SameConfig t u) : SameConfig s u :=
  ⟨h2.rom.trans h1.rom, h2.romSizeCode.trans h1.romSizeCode, h2.ramSizeCode.trans h1.ramSizeCode,
    h2.params.trans h1.params⟩

theorem storeAll_sameConfig {l : List (Word × Byte)} {s t : State} (h : storeAll s l = .ok t) : SameConfig s t :=
  storeAll_induction SameConfig.refl SameConfig.trans
    (fun h => ⟨busWrite_rom h, busWrite_romSizeCode h, busWrite_ramSizeCode h, busWrite_params h⟩) h

theorem storeAll_memoryClean {l : List (Word × Byte)} {s t : State} (hs : s.MemoryClean)
    (h : storeAll s l = .ok t) : t.MemoryClean :=
  storeAll_induction (P := fun s t => s.MemoryClean → t.MemoryClean) (fun _ => id) (fun h1 h2 => h2 ∘ h1)
    (fun h hs => busWrite_memoryClean hs h) h hs

theorem State.MemoryClean.putCpu {s : State} (h : s.MemoryClean) (c : State) : (s.putCpu c).MemoryClean :=
  h.congr rfl rfl rfl rfl rfl rfl rfl

/-- Stores and then an update of the CPU keep the invariant where the update keeps what it says of the CPU. -/
theorem inv_of_stores {l : List (Word × Byte)} {s u c : State} (hs : s.Inv) (h : storeAll s l = .ok u)
    (flags : c.FlagsClean) (pending : s.params.eiDelay = false → c.eiPending = false) : (u.putCpu c).Inv where
  flags := flags
  memory := (storeAll_memoryClean hs.memory h).putCpu c
  pending := fun hp => pending ((congrArg Config.Params.eiDelay (storeAll_sameConfig h).params).symm.trans hp)

/-! ## The taking of an interrupt -/

/-- The state with the IF bit of a source cleared (R411). -/
def State.acknowledged (s : State) (i : IntSource) : State := { s with ifReg := s.ifReg &&& ~~~(1#8 <<< i.bit) }

/-- The CPU after the dispatch of a source: SP two lower, PC at the vector, IME and Halted clear (R411). -/
def State.entered (s : State) (i : IntSource) : State :=
  { s with sp := s.sp - 2, pc := i.vector, ime := false, halted := false
           cycles := { s.cycles with dispatch := s.params.intDispatchCycles } }

theorem storeAll_putCpu (s c : State) (l : List (Word × Byte)) :
    storeAll (s.putCpu c) l = (storeAll s l).map (·.putCpu c) := by
  induction l generalizing s with
  | nil => rfl
  | cons p rest ih =>
    rw [storeAll_cons, storeAll_cons, busWrite_putCpu]
    cases busWrite s p.1 p.2 with
    | error e => rfl
    | ok u => exact ih u

/-- Dispatch is the two stores of the return address, and an update of the CPU (R411). -/
theorem dispatch_eq_storeAll (s : State) (i : IntSource) :
    dispatch s i = (storeAll (s.acknowledged i) (s.pushed s.pc)).map (·.putCpu (s.entered i)) := by
  have hpush : push16 { s with ifReg := s.ifReg &&& ~~~(1#8 <<< i.bit), ime := false, halted := false } s.pc =
      (storeAll (s.acknowledged i) (s.pushed s.pc)).map
        (·.putCpu { s with sp := s.sp - 2, ime := false, halted := false }) := by
    rw [push16_eq_storeAll]
    change (storeAll ((s.acknowledged i).putCpu { s with ime := false, halted := false }) (s.pushed s.pc)).map _ = _
    rw [storeAll_putCpu]
    cases storeAll (s.acknowledged i) (s.pushed s.pc) <;> rfl
  rw [dispatch, hpush]
  cases h : storeAll (s.acknowledged i) (s.pushed s.pc) with
  | error e => rfl
  | ok u =>
    have hcost : u.params.intDispatchCycles = s.params.intDispatchCycles :=
      congrArg Config.Params.intDispatchCycles (storeAll_sameConfig h).params
    rw [State.entered, ← hcost]
    rfl

/-- What a dispatch that answers a state has done. -/
theorem dispatch_next {s t : State} {i : IntSource} (h : dispatch s i = .ok t) :
    ∃ u, storeAll (s.acknowledged i) (s.pushed s.pc) = .ok u ∧ t = u.putCpu (s.entered i) := by
  rw [dispatch_eq_storeAll] at h
  cases hu : storeAll (s.acknowledged i) (s.pushed s.pc) with
  | error e => rw [hu] at h; cases h
  | ok u => rw [hu] at h; exact ⟨u, rfl, (Except.ok.inj h).symm⟩

/-! ## The invariant -/

/-- `t` has the invariant where `s` has it, with the same ROM, sizes and parameters. -/
structure KeepsInv (s t : State) : Prop where
  config : SameConfig s t
  inv : s.Inv → t.Inv

theorem KeepsInv.refl (s : State) : KeepsInv s s := ⟨.refl s, id⟩

theorem KeepsInv.trans {s t u : State} (h1 : KeepsInv s t) (h2 : KeepsInv t u) : KeepsInv s u :=
  ⟨h1.config.trans h2.config, h2.inv ∘ h1.inv⟩

theorem exec_sameConfig {i : Instr} {s t : State} (h : exec i s = .next t) : SameConfig s t := by
  obtain ⟨cpu, u, -, hu, rfl⟩ := exec_next h
  obtain ⟨rom, romSizeCode, ramSizeCode, params⟩ := storeAll_sameConfig hu
  exact ⟨rom, romSizeCode, ramSizeCode, params⟩

/-- With `EI_DELAY = 0` no instruction writes EI_pending (R41, R373, R374). -/
theorem exec_eiPending {i : Instr} {s t : State} (hp : s.params.eiDelay = false) (h : exec i s = .next t) :
    t.eiPending = s.eiPending := by
  by_cases hdi : i = .di
  · subst hdi
    cases h
    simp [hp]
  · by_cases hei : i = .ei
    · subst hei
      cases h
      simp [hp]
    · obtain ⟨cpu, u, hc, -, rfl⟩ := exec_next h
      exact hc.eiPending hdi hei s

theorem exec_keepsInv {i : Instr} {s t : State} (h : exec i s = .next t) : KeepsInv s t := by
  refine ⟨exec_sameConfig h, fun hs => ?_⟩
  have hpending (hp : s.params.eiDelay = false) : t.eiPending = false := (exec_eiPending hp h).trans (hs.pending hp)
  obtain ⟨cpu, u, hc, hu, rfl⟩ := exec_next h
  exact inv_of_stores hs hu (hc.clean s hs.flags) hpending

theorem beginStep_keepsInv (s : State) : KeepsInv s (beginStep s) := by
  refine ⟨⟨rfl, rfl, rfl, rfl⟩, fun hs => ⟨hs.flags, hs.memory.congr rfl rfl rfl rfl rfl rfl rfl, fun hp => ?_⟩⟩
  have hp' : s.params.eiDelay = false := hp
  simp [hp', hs.pending hp']

theorem advance_keepsInv (s : State) (f : Fetched) : KeepsInv s (advance s f) :=
  ⟨⟨rfl, rfl, rfl, rfl⟩, fun hs => ⟨hs.flags, hs.memory.congr rfl rfl rfl rfl rfl rfl rfl, hs.pending⟩⟩

theorem haltedIdle_keepsInv (s : State) : KeepsInv s (haltedIdle s) :=
  ⟨⟨rfl, rfl, rfl, rfl⟩, fun hs => ⟨hs.flags, hs.memory.congr rfl rfl rfl rfl rfl rfl rfl, hs.pending⟩⟩

theorem updatePeriph_keepsInv (s : State) : KeepsInv s (updatePeriph s) :=
  ⟨⟨rfl, rfl, rfl, rfl⟩, fun hs =>
    ⟨hs.flags, { hs.memory with periph_clean := Periph.update_clean hs.memory.periph_clean _ }, hs.pending⟩⟩

theorem dispatch_keepsInv {s t : State} {i : IntSource} (h : dispatch s i = .ok t) : KeepsInv s t := by
  obtain ⟨u, hu, rfl⟩ := dispatch_next h
  obtain ⟨rom, romSizeCode, ramSizeCode, params⟩ := storeAll_sameConfig hu
  refine ⟨⟨rom, romSizeCode, ramSizeCode, params⟩, fun hs => ?_⟩
  have hack : (s.acknowledged i).Inv := ⟨hs.flags, hs.memory.congr rfl rfl rfl rfl rfl rfl rfl, hs.pending⟩
  exact inv_of_stores hack hu hs.flags hs.pending

theorem finishStep_keepsInv {s t : State} (h : finishStep s = .next t) : KeepsInv s t := by
  refine (updatePeriph_keepsInv s).trans ?_
  rcases interruptCheck_ok.mp (finishStep_next.mp h) with ⟨-, i, -, hd⟩ | ⟨-, rfl⟩
  · exact dispatch_keepsInv hd
  · exact .refl _

theorem step_keepsInv {s t : State} (h : step s = .next t) : KeepsInv s t := by
  refine (beginStep_keepsInv s).trans ?_
  rcases step_next.mp h with ⟨-, hend⟩ | ⟨-, f, u, -, hexec, hend⟩
  · exact (haltedIdle_keepsInv _).trans (finishStep_keepsInv hend)
  · exact (advance_keepsInv _ f).trans ((exec_keepsInv hexec).trans (finishStep_keepsInv hend))

/-- Settles O52: every phase of a step keeps the invariant, and the configuration. -/
theorem stepKeepsInvariant : Obligations.StepKeepsInvariant := by
  unfold Obligations.StepKeepsInvariant
  intro s t hs h
  obtain ⟨⟨rom, romSizeCode, ramSizeCode, params⟩, inv⟩ := step_keepsInv h
  exact ⟨inv hs, rom, romSizeCode, ramSizeCode, params⟩

/-- Settles O53: every storage is empty, and the rest is as R49 gives it. -/
theorem resetHasInvariant : Obligations.ResetHasInvariant := by
  unfold Obligations.ResetHasInvariant
  have hempty (size : Nat) : Memory.within [] size := fun _ h => absurd h List.not_mem_nil
  exact ⟨⟨rfl, ⟨Memory.wf_nil, hempty _, Memory.wf_nil, hempty _, Memory.wf_nil, hempty _, Memory.wf_nil, hempty _,
    trivial⟩, fun _ => rfl⟩, rfl, rfl, rfl, rfl, rfl, rfl, rfl, rfl, rfl⟩

/-! ## IME, Halted and the end of a program -/

/-- The vector of a source in arithmetic (R40). -/
theorem IntSource.vector_eq (i : IntSource) : i.vector = BitVec.ofNat 16 (0x40 + 8 * i.bit) := by
  cases i <;> rfl

/-- A step that wakes a halted core is a dispatch, with IME set at its start or by the pending EI (R38, R411). -/
theorem step_wakes {s t : State} (h : step s = .next t) (hs : s.halted = true) (ht : t.halted = false) :
    (s.ime = true ∨ (s.params.eiDelay = true ∧ s.eiPending = true)) ∧ t.ime = false ∧
      ∃ i : IntSource, t.pc = i.vector := by
  rcases step_next.mp h with ⟨-, hend⟩ | ⟨hrun, -⟩
  · rcases interruptCheck_ok.mp (finishStep_next.mp hend) with ⟨hime, i, -, hd⟩ | ⟨-, rfl⟩
    · obtain ⟨u, -, rfl⟩ := dispatch_next hd
      have hime' : (s.ime || (s.params.eiDelay && s.eiPending)) = true := by
        rwa [beginStep_eq] at hime
      exact ⟨by simpa using hime', rfl, i, rfl⟩
    · exact absurd (ht.symm.trans hs) Bool.false_ne_true
  · exact absurd (hrun.symm.trans hs) Bool.false_ne_true

/-- Settles O46: the updates of the instructions by `CpuPart`, and a waking step is a dispatch. -/
theorem writersOfImeAndHalted : Obligations.WritersOfImeAndHalted := by
  unfold Obligations.WritersOfImeAndHalted
  refine ⟨fun i s t h => ?_, fun s t h hs ht => ?_⟩
  · obtain ⟨cpu, u, hc, -, rfl⟩ := exec_next h
    exact ⟨fun h1 h2 h3 => hc.ime h1 h2 h3 s, fun h1 h2 => hc.eiPending h1 h2 s, fun h1 => hc.halted h1 s⟩
  · obtain ⟨hime, htime, i, hpc⟩ := step_wakes h hs ht
    exact ⟨hime, htime, i, hpc.trans i.vector_eq⟩

/-- A step of an ended program is the idle and the peripheral's update (R372, R462). -/
theorem step_of_ended {s : State} (h : s.Ended) : step s = .next (updatePeriph (haltedIdle (beginStep s))) := by
  have hime : (updatePeriph (haltedIdle (beginStep s))).ime = false := by
    simp [h.ime, h.noPending]
  exact step_next.mpr (.inl ⟨h.halted, finishStep_next.mpr (interruptCheck_ok.mpr (.inr ⟨.inl hime, rfl⟩))⟩)

theorem ended_step {s : State} (h : s.Ended) : (updatePeriph (haltedIdle (beginStep s))).Ended where
  halted := h.halted
  ime := by simp [h.ime, h.noPending]
  noPending := by simp [h.noPending]

theorem runs_zero (s : State) : runs 0 s s := rfl

theorem run_succ {M : Host.Core} {s t : M.State} (h : M.step s = .next t) (n : Nat) : M.run (n + 1) s = M.run n t := by
  rw [Host.Core.run, h]

theorem runs_succ {n : Nat} {s t u : State} (h1 : step s = .next t) (h2 : runs n t u) : runs (n + 1) s u :=
  (run_succ (M := Sys2Proof.core) h1 n).trans h2

/-- Settles O56: by induction on the number of steps, each of which is the idle. -/
theorem endedProgramStaysEnded : Obligations.EndedProgramStaysEnded := by
  unfold Obligations.EndedProgramStaysEnded
  intro n
  induction n with
  | zero => exact fun s h => ⟨s, runs_zero s, h, rfl, rfl, rfl, rfl, rfl, rfl, rfl, rfl⟩
  | succ n ih =>
    intro s h
    obtain ⟨t, hruns, hended, hkept⟩ := ih _ (ended_step h)
    exact ⟨t, runs_succ (step_of_ended h) hruns, hended, hkept⟩

end Sys2Proof.Machine
end

section
/-! PROOFS. The fetch of an instruction and the faults of a step (spec/30_encoding.md R120, R121, R133;
spec/60_exceptions.md R400, R401, R420 to R422). -/

namespace Sys2Proof.Machine

/-! ## The faults of the bus -/

theorem readAll_error {l : List Word} {s : State} {e : Fault} (h : readAll s l = .error e) :
    ∃ a, e = accessFault a := by
  induction l with
  | nil => cases h
  | cons a rest ih =>
    rw [readAll] at h
    by_cases ha : s.Accessible a
    · rw [busRead_of_accessible ha] at h
      exact ih h
    · rw [(busAccess_of_not_accessible ha 0).1] at h
      exact ⟨a, (Except.error.inj h).symm⟩

/-- A fatal write is fatal at its own address, or at a source byte of the DMA it starts (R90). -/
theorem busWrite_error {s : State} {a : Word} {v : Byte} {e : Fault} (h : busWrite s a v = .error e) :
    ∃ b, e = accessFault b := by
  by_cases ha : s.Accessible a
  · by_contra hno
    have hsource (hdma : a = 0xFF46) (i : Nat) : i < 0xA0 → s.Accessible (ofBytes v 0 + BitVec.ofNat 16 i) := by
      induction i using Nat.strong_induction_on with
      | _ i ih =>
        intro hi
        by_contra hbad
        subst hdma
        rw [busWrite_dmaTrigger_fault hi (fun j hj => ih j hj (hj.trans hi)) hbad] at h
        exact hno ⟨_, (Except.error.inj h).symm⟩
    obtain ⟨t, ht⟩ := busWrite_ok_iff.mpr ⟨ha, hsource⟩
    cases ht.symm.trans h
  · rw [(busAccess_of_not_accessible ha v).2] at h
    exact ⟨a, (Except.error.inj h).symm⟩

theorem storeAll_error {l : List (Word × Byte)} {s : State} {e : Fault} (h : storeAll s l = .error e) :
    ∃ a, e = accessFault a := by
  induction l generalizing s with
  | nil => cases h
  | cons p rest ih =>
    rw [storeAll_cons] at h
    cases hb : busWrite s p.1 p.2 with
    | error e' => rw [hb] at h; cases h; exact busWrite_error hb
    | ok u => rw [hb] at h; exact ih h

/-! ## Fetching -/

theorem fetchByte_inside {s : State} {addr : Word} {k : Nat} (h : addr.toNat + k ≤ 0xFFFF) :
    fetchByte s addr k = busRead s (addr + BitVec.ofNat 16 k) :=
  if_pos h

theorem fetchByte_outside {s : State} {addr : Word} {k : Nat} (h : ¬ addr.toNat + k ≤ 0xFFFF) :
    fetchByte s addr k = .error (.decodePastEnd addr) :=
  if_neg h

/-- The bytes fetched one by one are the bytes fetched (R121). -/
theorem fetchFrom_of_bytes {s : State} {addr : Word} {bytes : List Byte} {k : Nat}
    (h : ∀ j v, bytes[j]? = some v → fetchByte s addr (k + j) = .ok v) :
    fetchFrom s addr k bytes.length = .ok bytes := by
  induction bytes generalizing k with
  | nil => rfl
  | cons b rest ih =>
    have hfirst : fetchByte s addr k = .ok b := h 0 b rfl
    have hrest : fetchFrom s addr (k + 1) rest.length = .ok rest :=
      ih fun j v hv => by rw [Nat.add_assoc, Nat.add_comm 1 j]; exact h (j + 1) v hv
    simp only [List.length_cons, fetchFrom, hfirst, hrest]

/-- A fetch stops at the first byte that cannot be fetched (R121). -/
theorem fetchFrom_of_error {s : State} {addr : Word} {k m count : Nat} {e : Fault} (hm : k ≤ m) (hlt : m < k + count)
    (before : ∀ j, k ≤ j → j < m → ∃ b, fetchByte s addr j = .ok b) (h : fetchByte s addr m = .error e) :
    fetchFrom s addr k count = .error e := by
  induction count generalizing k with
  | zero => omega
  | succ count ih =>
    rw [fetchFrom]
    by_cases hk : k = m
    · rw [hk, h]
    · obtain ⟨b, hb⟩ := before k (Nat.le_refl k) (by omega)
      rw [hb, ih (by omega) (by omega) fun j hj => before j (by omega)]

theorem opLength_cases : ∀ op : Byte, opLength op = 1 ∨ opLength op = 2 ∨ opLength op = 3 := by
  decide

theorem fetch_of_error {s : State} {addr : Word} {op : Byte} {m : Nat} {e : Fault} (hop : busRead s addr = .ok op)
    (hm : m < opLength op) (before : ∀ j, j < m → ∃ b, fetchByte s addr j = .ok b)
    (h : fetchByte s addr m = .error e) : fetch s addr = .error e := by
  have hzero := (fetchByte_zero s addr).trans hop
  have hpos : 1 ≤ m := by
    by_contra hm0
    obtain rfl : m = 0 := by omega
    cases hzero.symm.trans h
  rw [fetch, hzero]
  simp only [fetchFrom_of_error (k := 1) (count := opLength op - 1) hpos (by omega)
    (fun j _ hj => before j hj) h]

/-- A fetch that answers bytes answers as many as the first of them says (R120). -/
theorem fetchFrom_length {s : State} {addr : Word} {k count : Nat} {bytes : List Byte}
    (h : fetchFrom s addr k count = .ok bytes) : bytes.length = count := by
  induction count generalizing k bytes with
  | zero => cases h; rfl
  | succ count ih =>
    rw [fetchFrom] at h
    cases hb : fetchByte s addr k with
    | error e => rw [hb] at h; cases h
    | ok b =>
      cases hf : fetchFrom s addr (k + 1) count with
      | error e => rw [hb, hf] at h; cases h
      | ok rest =>
        rw [hb, hf] at h
        cases h
        rw [List.length_cons, ih hf]

theorem fetch_shape {s : State} {addr : Word} {bytes : List Byte} (h : fetch s addr = .ok bytes) :
    ∃ op rest, bytes = op :: rest ∧ rest.length + 1 = opLength op := by
  unfold fetch at h
  cases hb : fetchByte s addr 0 with
  | error e => rw [hb] at h; cases h
  | ok op =>
    cases hf : fetchFrom s addr 1 (opLength op - 1) with
    | error e => simp only [hb, hf] at h; cases h
    | ok rest =>
      simp only [hb, hf] at h
      cases h
      have := opLength_cases op
      exact ⟨op, rest, rfl, by rw [fetchFrom_length hf]; omega⟩

/-! ### Decoding by the length of the opcode -/

theorem decode_prefix (second : Byte) (rest : List Byte) :
    decode (0xCB :: second :: rest) = .ok (decodeCB second) 2 (cyclesCB second) := rfl

section ByLength

variable {op : Byte} (hcb : op ≠ 0xCB)

include hcb

theorem decode_one (h : opLength op = 1) (rest : List Byte) :
    decode (op :: rest) = .ok (decodePrimary op 0 0) 1 (cycleTable.getD op.toNat 0) := by
  simp only [decode, if_neg hcb, h]

theorem decode_two (h : opLength op = 2) (n : Byte) (rest : List Byte) :
    decode (op :: n :: rest) = .ok (decodePrimary op n 0) 2 (cycleTable.getD op.toNat 0) := by
  simp only [decode, if_neg hcb, h]

theorem decode_three (h : opLength op = 3) (lo hi : Byte) (rest : List Byte) :
    decode (op :: lo :: hi :: rest) = .ok (decodePrimary op 0 (ofBytes hi lo)) 3 (cycleTable.getD op.toNat 0) := by
  simp only [decode, if_neg hcb, h]

end ByLength

/-- As many bytes as the first one says are an instruction (R120, R133). -/
theorem decode_of_length {op : Byte} {rest : List Byte} (h : rest.length + 1 = opLength op) :
    ∃ i size cycles, decode (op :: rest) = .ok i size cycles := by
  by_cases hcb : op = 0xCB
  · subst hcb
    match rest, h with
    | [second], _ => exact ⟨_, _, _, decode_prefix second []⟩
  · match rest, h with
    | [], h => exact ⟨_, _, _, decode_one hcb h.symm []⟩
    | [n], h => exact ⟨_, _, _, decode_two hcb h.symm n []⟩
    | [lo, hi], h => exact ⟨_, _, _, decode_three hcb h.symm lo hi []⟩
    | _ :: _ :: _ :: _, h =>
      simp only [List.length_cons] at h
      have := opLength_cases op
      omega

/-! ### The obligation about the fetch -/

theorem step_fault_of_fetch {s : State} {e : Fault} (hh : s.halted = false) (h : fetch s s.pc = .error e) :
    step s = .fault e := by
  have hd : decodeAt (beginStep s) s.pc = .error e := by
    rw [decodeAt, (decodeAt_congr (busRead_beginStep s) s.pc).1, h]
  simp [step, stepWith, hh, hd]

theorem fetch_of_bytes {s : State} {addr : Word} {op : Byte} {rest : List Byte}
    (hend : addr.toNat + opLength op ≤ 0x10000) (hlen : rest.length + 1 = opLength op)
    (hop : busRead s addr = .ok op)
    (h : ∀ k v, rest[k]? = some v → busRead s (addr + BitVec.ofNat 16 (k + 1)) = .ok v) :
    fetch s addr = .ok (op :: rest) := by
  have hrest : fetchFrom s addr 1 rest.length = .ok rest := by
    refine fetchFrom_of_bytes fun j v hv => ?_
    obtain ⟨hj, -⟩ := List.getElem?_eq_some_iff.mp hv
    rw [fetchByte_inside (by omega), Nat.add_comm 1 j]
    exact h j v hv
  rw [fetch, (fetchByte_zero s addr).trans hop]
  simp only [show opLength op - 1 = rest.length by omega, hrest]

theorem fetchByte_of_accessible {s : State} {addr : Word} {j : Nat} (hj : addr.toNat + j ≤ 0xFFFF)
    (h : s.Accessible (addr + BitVec.ofNat 16 j)) : ∃ b, fetchByte s addr j = .ok b :=
  ⟨_, (fetchByte_inside hj).trans (busRead_of_accessible h)⟩

/-- The first byte that is not accessible is the fault of the fetch (R64, R88). -/
theorem fetch_of_not_accessible {s : State} {addr : Word} {k : Nat} (hk : addr.toNat + k ≤ 0xFFFF)
    (hop : k = 0 ∨ ∃ op, busRead s addr = .ok op ∧ k < opLength op)
    (before : ∀ j, j < k → s.Accessible (addr + BitVec.ofNat 16 j))
    (h : ¬ s.Accessible (addr + BitVec.ofNat 16 k)) :
    fetch s addr = .error (accessFault (addr + BitVec.ofNat 16 k)) := by
  have hbad : fetchByte s addr k = .error (accessFault (addr + BitVec.ofNat 16 k)) :=
    (fetchByte_inside hk).trans (busAccess_of_not_accessible h 0).1
  rcases hop with rfl | ⟨op, hop, hlen⟩
  · rw [fetch, hbad]
  · exact fetch_of_error hop hlen (fun j hj => fetchByte_of_accessible (by omega) (before j hj)) hbad

/-- An instruction that is longer than the address space is `DECODE_PAST_END` (R121). -/
theorem fetch_past_end {s : State} {addr : Word} {op : Byte} (hend : addr.toNat + opLength op > 0x10000)
    (hop : busRead s addr = .ok op)
    (h : ∀ k, addr.toNat + k < 0x10000 → s.Accessible (addr + BitVec.ofNat 16 k)) :
    fetch s addr = .error (.decodePastEnd addr) := by
  have := addr.isLt
  refine fetch_of_error (m := 0x10000 - addr.toNat) hop (by omega) (fun j hj => ?_) (fetchByte_outside (by omega))
  exact fetchByte_of_accessible (by omega) (h j (by omega))

/-- Settles O48: the bytes by the recursion of the fetch, which stops at the first that cannot be fetched. -/
theorem fetchReadsBytesInOrder : Obligations.FetchReadsBytesInOrder := by
  unfold Obligations.FetchReadsBytesInOrder
  refine ⟨fun s a op rest => fetch_of_bytes, fun s k hk hop before h => ?_, fun s op hend hop h => ?_⟩
  · have hf := fetch_of_not_accessible hk hop before h
    exact ⟨hf, fun hh => step_fault_of_fetch hh hf⟩
  · have hf := fetch_past_end hend hop h
    exact ⟨hf, fun hh => step_fault_of_fetch hh hf⟩

/-! ## The faults of a step -/

/-- A fault that a step can end in: any but `UNREACHABLE_DECODE` and `MALFORMED_ROM`. -/
def StepFault (e : Fault) : Prop := (∀ op, e ≠ .unreachableDecode op) ∧ ∀ d, e ≠ .malformedRom d

theorem stepFault_accessFault (a : Word) : StepFault (accessFault a) := by
  unfold StepFault accessFault
  split <;> simp

theorem stepFault_of_access {e : Fault} (h : ∃ a, e = accessFault a) : StepFault e := by
  obtain ⟨a, rfl⟩ := h
  exact stepFault_accessFault a

theorem fetchByte_error {s : State} {addr : Word} {k : Nat} {e : Fault} (h : fetchByte s addr k = .error e) :
    StepFault e := by
  by_cases hk : addr.toNat + k ≤ 0xFFFF
  · rw [fetchByte_inside hk] at h
    by_cases ha : s.Accessible (addr + BitVec.ofNat 16 k)
    · cases (busRead_of_accessible ha).symm.trans h
    · cases (busAccess_of_not_accessible ha 0).1.symm.trans h
      exact stepFault_accessFault _
  · cases (fetchByte_outside hk).symm.trans h
    simp [StepFault]

theorem fetchFrom_error {s : State} {addr : Word} {k count : Nat} {e : Fault}
    (h : fetchFrom s addr k count = .error e) : StepFault e := by
  induction count generalizing k with
  | zero => cases h
  | succ count ih =>
    rw [fetchFrom] at h
    cases hb : fetchByte s addr k with
    | error e' => rw [hb] at h; cases h; exact fetchByte_error hb
    | ok b =>
      cases hf : fetchFrom s addr (k + 1) count with
      | error e' => rw [hb, hf] at h; cases h; exact ih hf
      | ok rest => rw [hb, hf] at h; cases h

theorem fetch_error {s : State} {addr : Word} {e : Fault} (h : fetch s addr = .error e) : StepFault e := by
  unfold fetch at h
  cases hb : fetchByte s addr 0 with
  | error e' => rw [hb] at h; cases h; exact fetchByte_error hb
  | ok op =>
    cases hf : fetchFrom s addr 1 (opLength op - 1) with
    | error e' => simp only [hb, hf] at h; cases h; exact fetchFrom_error hf
    | ok rest => simp only [hb, hf] at h; cases h

/-- The bytes fetched always decode, so `UNREACHABLE_DECODE` is never raised (R133). -/
theorem decodeAt_error {s : State} {addr : Word} {e : Fault} (h : decodeAt s addr = .error e) : StepFault e := by
  unfold decodeAt at h
  cases hf : fetch s addr with
  | error e' => rw [hf] at h; cases h; exact fetch_error hf
  | ok bytes =>
    obtain ⟨op, rest, rfl, hlen⟩ := fetch_shape hf
    obtain ⟨i, size, cycles, hd⟩ := decode_of_length hlen
    simp only [hf, hd] at h
    cases h

theorem exec_fault {i : Instr} {s : State} {e : Fault} (h : exec i s = .fault e) : StepFault e := by
  rcases exists_cpuPart i with hstop | ⟨cpu, hc⟩
  · obtain ⟨e', he', hkind⟩ := hstop.exec s
    cases he'.symm.trans h
    rcases hkind with ⟨op, rfl⟩ | ⟨a, rfl⟩ <;> simp [StepFault]
  · rw [hc.exec_eq, State.perform_fault] at h
    rcases h with hload | ⟨-, hstore⟩
    · exact stepFault_of_access (readAll_error hload)
    · exact stepFault_of_access (storeAll_error hstore)

/-- No instruction is refused. -/
theorem exec_ne_refused (i : Instr) (s : State) (r : Refusal) : exec i s ≠ .refused r := by
  rcases exists_cpuPart i with hstop | ⟨cpu, hc⟩
  · obtain ⟨e, he, -⟩ := hstop.exec s
    rw [he]
    exact nofun
  · rw [hc.exec_eq]
    exact State.perform_ne_refused

theorem dispatch_error {s : State} {i : IntSource} {e : Fault} (h : dispatch s i = .error e) : StepFault e := by
  rw [dispatch_eq_storeAll] at h
  cases hu : storeAll (s.acknowledged i) (s.pushed s.pc) with
  | error e' => rw [hu] at h; cases h; exact stepFault_of_access (storeAll_error hu)
  | ok u => rw [hu] at h; cases h

/-- What a step answers: a next state, or a fault of the table of causes. -/
def Answers (r : Out) : Prop := (∃ t, r = .next t) ∨ ∃ e, r = .fault e ∧ StepFault e

theorem finishStep_answers (s : State) : Answers (finishStep s) := by
  unfold finishStep interruptCheck
  split
  · split
    · cases h : dispatch (updatePeriph s) _ with
      | ok t => exact .inl ⟨t, rfl⟩
      | error e => exact .inr ⟨e, rfl, dispatch_error h⟩
    · exact .inl ⟨_, rfl⟩
  · exact .inl ⟨_, rfl⟩

theorem step_answers (s : State) : Answers (step s) := by
  unfold step stepWith
  simp only []
  split
  · exact finishStep_answers _
  · split
    · next e h => exact .inr ⟨e, rfl, decodeAt_error h⟩
    · next f h =>
      split
      · exact finishStep_answers _
      · next e he => exact .inr ⟨e, rfl, exec_fault he⟩
      · next r hr => exact absurd hr (exec_ne_refused _ _ r)

/-- Settles O55: the faults of the bus, of the fetch and of the execution are all of the other five. -/
theorem stepsFaultOnlyForTheirReasons : Obligations.StepsFaultOnlyForTheirReasons := by
  unfold Obligations.StepsFaultOnlyForTheirReasons
  exact step_answers

/-! ## The phases of a step -/

/-- Settles O47: the phases of `stepWith`, with the start of the step written out. -/
theorem stepRunsTheDecodedInstruction : Obligations.StepRunsTheDecodedInstruction := by
  unfold Obligations.StepRunsTheDecodedInstruction
  refine ⟨fun s bytes i size cycles hh hf hd => ?running, fun s e hh hf => step_fault_of_fetch hh hf,
    fun s hh => ?halted, fun s => rfl⟩
  case running =>
    have hdec : decodeAt (beginStep s) s.pc = .ok { instr := i, size := size, cycles := cycles } :=
      decodeAt_of_fetch ((decodeAt_congr (busRead_beginStep s) s.pc).1.trans hf) hd
    have hrun : (beginStep s).halted = false := hh
    simp only [step, stepWith, hrun, beginStep_pc, hdec, Bool.false_eq_true, if_false]
    rw [beginStep_eq]
    rfl
  case halted =>
    have hidle : (beginStep s).halted = true := hh
    simp only [step, stepWith, hidle, if_true]
    rw [beginStep_eq]
    rfl

end Sys2Proof.Machine
end

section
/-! PROOFS. The stack bytes of a push read back, the round trips through the stack and through an interrupt handler
(spec/40_load.md R230 to R233; spec/60_exceptions.md R411 to R414), and the priority of the sources (R412, R413). -/

namespace Sys2Proof.Machine

/-! ## Bytes stored and read back -/

/-- A write at an address that stores can change the reads of its own byte only. -/
theorem sameByte_of_storesAt {s : State} {a b : Word} (h : s.StoresAt a) (hc : canChange a b) : sameByte a b := by
  have hregion : ¬ a.toNat ≤ 0x7FFF ∧ ¬ periphAddress a ∧ ¬ unmappedAddress a := by
    rcases h with h | rfl | h | ⟨h1, h2, -⟩
    · omega
    · decide
    · omega
    · omega
  obtain ⟨hrom, hperiph, hunmapped⟩ := hregion
  simpa only [canChange, if_neg hrom, if_neg hperiph, if_neg hunmapped] using hc

theorem storesAt_not_rom {s : State} {a : Word} (h : s.StoresAt a) : ¬ a.toNat ≤ 0x7FFF := by
  rcases h with h | rfl | h | ⟨h1, h2, -⟩
  · omega
  · decide
  · omega
  · omega

/-- A store where addresses store leaves where they store. -/
theorem storesAt_of_busWrite {s t : State} {a b : Word} {v : Byte} (ha : s.StoresAt a) (h : busWrite s a v = .ok t)
    (hb : s.StoresAt b) : t.StoresAt b := by
  have hm := busWrite_mbc_of_not_rom (storesAt_not_rom ha) h
  simpa only [State.StoresAt, accessible_congr hm (busWrite_ramSizeCode h), hm] using hb

/-- The two bytes of a push have different addresses, and neither is the echo of the other. -/
theorem not_sameByte_stack (sp : Word) : ¬ sameByte (sp - 2) (sp - 1) := by
  simp only [sameByte]
  bv_omega

/-- Where both stack bytes are stored, a push completes and both are read back. -/
theorem pushed_read_back {s : State} (v : Word) (h1 : s.StoresAt (s.sp - 1)) (h2 : s.StoresAt (s.sp - 2)) :
    ∃ u, storeAll s (s.pushed v) = .ok u ∧ busRead u (s.sp - 2) = .ok (loByte v) ∧
      busRead u (s.sp - 1) = .ok (hiByte v) := by
  obtain ⟨t, ht, hhi⟩ := busWrite_storesAt h1 (hiByte v)
  have h2' : t.StoresAt (s.sp - 2) := storesAt_of_busWrite h1 ht h2
  obtain ⟨u, hu, hlo⟩ := busWrite_storesAt h2' (loByte v)
  refine ⟨u, ?_, hlo, ?_⟩
  · rw [State.pushed, storeAll_cons, ht]
    exact (storeAll_single t _ _).trans hu
  · rw [busRead_of_busWrite hu fun hc => not_sameByte_stack s.sp (sameByte_of_storesAt h2' hc), hhi]

/-- A state whose stack top holds a word pops it (R231). -/
structure StackTop (s : State) (base v : Word) : Prop where
  sp : s.sp = base - 2
  lo : busRead s (base - 2) = .ok (loByte v)
  hi : busRead s (base - 1) = .ok (hiByte v)

theorem StackTop.pop16 {s : State} {base v : Word} (h : StackTop s base v) : pop16 s = .ok (s.setSP base, v) := by
  have h1 : base - 2 + 1 = base - 1 := by bv_omega
  have h2 : base - 2 + 2 = base := by bv_omega
  refine pop16_ok.mpr ⟨loByte v, hiByte v, ?_, ?_, ?_, (ofBytes_hiByte_loByte v).symm⟩
  · rw [h.sp, h.lo]
  · rw [h.sp, h1, h.hi]
  · rw [h.sp, h2]

/-! ## PUSH and POP -/

theorem popPair_next {rr : Rp2} {s t : State} {v : Word} (h : pop16 s = .ok (t, v)) :
    popPair rr s = .next (t.setRp2 rr v) := by
  rw [popPair, h]

theorem popPair_fault {rr : Rp2} {s : State} {e : Fault} (h : pop16 s = .error e) : popPair rr s = .fault e := by
  rw [popPair, h]

/-- A byte with a zero low nibble is its high nibble (R32). -/
theorem and_0xF0_of_clean {f : Byte} (h : f &&& 0x0F = 0) : f &&& 0xF0 = f := by
  calc f &&& 0xF0 = f &&& 0xF0 ||| f &&& 0x0F := by rw [h]; simp
    _ = f := by
      rw [← BitVec.and_or_distrib_left]
      exact BitVec.and_allOnes

/-- Writing back the value of a pair leaves the registers, the low nibble of F being zero. -/
theorem setRp2_getRp2 {s t : State} (rr : Rp2) (hf : s.FlagsClean) (ht : t.regs = s.regs) :
    (t.setRp2 rr (s.getRp2 rr)).regs = s.regs := by
  cases rr with
  | af =>
    have hclean : s.regs.f &&& 240#8 = s.regs.f := and_0xF0_of_clean hf
    simp [State.setRp2, State.getRp2, Regs.af, ht, hclean]
  | bc => simp [State.setRp2, State.getRp2, Regs.bc, ht]
  | de => simp [State.setRp2, State.getRp2, Regs.de, ht]
  | hl => simp [State.setRp2, State.getRp2, Regs.hl, State.setHL, Regs.setHL, ht]

/-- Settles O10: the push leaves the pair on the top of the stack, and the pop writes it back. -/
theorem pushThenPopRestores : Obligations.PushThenPopRestores := by
  unfold Obligations.PushThenPopRestores
  intro rr s hf h1 h2
  obtain ⟨u, hu, hlo, hhi⟩ := pushed_read_back (s.getRp2 rr) h1 h2
  have hpush : exec (.pushRp rr) s = .next (u.putCpu (s.setSP (s.sp - 2))) := by
    rw [exec_pushRp, pushPair, push16_eq_storeAll, hu]
    rfl
  have htop : StackTop (u.putCpu (s.setSP (s.sp - 2))) s.sp (s.getRp2 rr) := ⟨rfl, hlo, hhi⟩
  refine ⟨_, _, hpush, (exec_popRp rr _).trans (popPair_next htop.pop16), setRp2_getRp2 rr hf rfl, ?_, ?_⟩
  · rw [State.setRp2_sp, State.setSP_sp]
  · rw [State.setRp2_pc]
    rfl

/-- Settles O6: `push16_ok` and `pop16_ok`, and the fatal access each stops at. -/
theorem pushAndPopOfAWord : Obligations.PushAndPopOfAWord := by
  unfold Obligations.PushAndPopOfAWord
  intro s v
  have h2 : s.sp + 1 + 1 = s.sp + 2 := by bv_omega
  refine ⟨fun t u ht hu => ⟨?_, ?_⟩, fun e he => ?_, fun t e ht he => ?_,
    fun lo hi hlo hhi => pop16_ok.mpr ⟨lo, hi, hlo, hhi, rfl, rfl⟩, fun e he => ?_, fun lo e hlo he => ?_⟩
  · simp only [push16, State.setSP, ht, hu]
  · rw [busWrite_sp hu]
    change t.sp - 1 = _
    rw [busWrite_sp ht]
    change s.sp - 1 - 1 = s.sp - 2
    bv_omega
  · simp only [push16, State.setSP, he]
  · simp only [push16, State.setSP, ht, he]
  · simp only [pop16, he]
  · have he' : busRead (s.setSP (s.sp + 1)) (s.sp + 1) = .error e := he
    simp only [pop16, hlo, he']

theorem pop16_error_lo {s : State} {e : Fault} (h : busRead s s.sp = .error e) : pop16 s = .error e := by
  rw [pop16, h]

theorem pop16_error_hi {s : State} {lo : Byte} {e : Fault} (hlo : busRead s s.sp = .ok lo)
    (h : busRead s (s.sp + 1) = .error e) : pop16 s = .error e := by
  have h' : busRead (s.setSP (s.sp + 1)) (s.sp + 1) = .error e := h
  rw [pop16, hlo]
  simp only [h']

theorem decode_popRp (rr : Rp2) : decode [opByte 3 (2 * rr.index) 1] = .ok (.popRp rr) 1 12 := by
  cases rr <;> rfl

/-- Settles O8: POP is one pop, then the write of the pair. -/
theorem popOfAPair : Obligations.PopOfAPair := by
  unfold Obligations.PopOfAPair
  intro rr s
  refine ⟨decode_popRp rr, fun lo hi hlo hhi => ?_, fun e he => ?_, fun lo e hlo he => ?_⟩
  · have hpop (q : Rp2) : exec (.popRp q) s = .next ((s.setSP (s.sp + 2)).setRp2 q (ofBytes hi lo)) :=
      (exec_popRp q s).trans (popPair_next (pop16_ok.mpr ⟨lo, hi, hlo, hhi, rfl, rfl⟩))
    simp [hpop, State.setRp2, State.setHL, State.setSP]
  · exact (exec_popRp rr s).trans (popPair_fault (pop16_error_lo he))
  · exact (exec_popRp rr s).trans (popPair_fault (pop16_error_hi hlo he))

/-! ## LD A,(HL+), LD A,(HL-) and LD (nn),SP -/

theorem ldAMemHL_next {step : Word} {s : State} {v : Byte} (h : busRead s s.regs.hl = .ok v) :
    ldAMemHL step s = .next ((s.setReg .a v).setHL (s.regs.hl + step)) := by
  rw [ldAMemHL, h]

theorem ldAMemHL_fault {step : Word} {s : State} {e : Fault} (h : busRead s s.regs.hl = .error e) :
    ldAMemHL step s = .fault e := by
  rw [ldAMemHL, h]

/-- Settles O5: one read at HL with HL stepped, and two writes of the bytes of SP. -/
theorem steppedLoadsAndStoreOfSP : Obligations.SteppedLoadsAndStoreOfSP := by
  unfold Obligations.SteppedLoadsAndStoreOfSP
  intro lo hi s hl nn
  refine ⟨rfl, rfl, fun v hv => ⟨?_, ?_⟩, fun e he => ⟨?_, ?_⟩, rfl, fun t u ht hu => ?_, fun e he => ?_,
    fun t e ht he => ?_⟩
  · exact (exec_ldAMHLInc s).trans (ldAMemHL_next hv)
  · rw [BitVec.sub_eq_add_neg]
    exact (exec_ldAMHLDec s).trans (ldAMemHL_next hv)
  · exact (exec_ldAMHLInc s).trans (ldAMemHL_fault he)
  · exact (exec_ldAMHLDec s).trans (ldAMemHL_fault he)
  · rw [exec_ldMNNSP, ldMemSP, ht]
    exact done_next.mpr hu
  · rw [exec_ldMNNSP, ldMemSP, he]
  · rw [exec_ldMNNSP, ldMemSP, ht]
    exact done_fault.mpr he

/-! ## The priority of the sources -/

/-- The lowest source that is set in IF and in IE is the one the scan finds (R413). -/
theorem readySource_of_lowest {ifReg ieReg : Byte} {i : IntSource} (hi : intReady ifReg ieReg i = true)
    (hlow : ∀ j : IntSource, j.bit < i.bit → intReady ifReg ieReg j = false) : readySource ifReg ieReg = some i := by
  have hlower (j : IntSource) (h : j.bit < i.bit) (rest : List IntSource) :
      firstReady ifReg ieReg (j :: rest) = firstReady ifReg ieReg rest := by
    rw [firstReady, hlow j h]
    rfl
  have hfound (rest : List IntSource) : firstReady ifReg ieReg (i :: rest) = some i := by
    rw [firstReady, if_pos hi]
  unfold readySource
  cases i with
  | vblank => exact hfound _
  | lcdStat => rw [hlower .vblank (by decide), hfound]
  | timer => rw [hlower .vblank (by decide), hlower .lcdStat (by decide), hfound]
  | serial =>
    rw [hlower .vblank (by decide), hlower .lcdStat (by decide), hlower .timer (by decide), hfound]
  | joypad =>
    rw [hlower .vblank (by decide), hlower .lcdStat (by decide), hlower .timer (by decide),
      hlower .serial (by decide), hfound]

theorem exists_intSource_bit {n : Nat} : n < 5 ↔ ∃ i : IntSource, i.bit = n := by
  constructor
  · intro h
    match n, h with
    | 0, _ => exact ⟨.vblank, rfl⟩
    | 1, _ => exact ⟨.lcdStat, rfl⟩
    | 2, _ => exact ⟨.timer, rfl⟩
    | 3, _ => exact ⟨.serial, rfl⟩
    | 4, _ => exact ⟨.joypad, rfl⟩
  · rintro ⟨i, rfl⟩
    cases i <;> decide

theorem interruptCheck_of_ready {s : State} {i : IntSource} (hime : s.ime = true)
    (h : readySource s.ifReg s.ieReg = some i) : interruptCheck s = dispatch s i := by
  rw [interruptCheck, if_pos hime, h]

/-- Settles O50: the scan finds the lowest source, or none. -/
theorem lowestReadySourceIsServiced : Obligations.LowestReadySourceIsServiced := by
  unfold Obligations.LowestReadySourceIsServiced
  refine ⟨fun n => exists_intSource_bit, fun s i hime hie hif hlow => ?_, fun s h => ?_⟩
  · refine interruptCheck_of_ready hime (readySource_of_lowest ?_ fun j hj => ?_)
    · rw [intReady, hie, hif]
      rfl
    · rw [intReady, ← Bool.not_eq_true, Bool.and_eq_true]
      exact hlow j hj
  · refine interruptCheck_ok.mpr (.inr ⟨h.imp_right fun hnone => ?_, rfl⟩)
    by_contra hc
    obtain ⟨j, hj⟩ := (readySource_ne_none s.ifReg s.ieReg).mp hc
    exact hnone j hj

/-! ## Dispatch and return -/

/-- Settles O49: the push decides the outcome. -/
theorem dispatchEntersTheHandler : Obligations.DispatchEntersTheHandler := by
  unfold Obligations.DispatchEntersTheHandler
  intro s i start
  refine ⟨fun t ht => dispatch_ok.mpr ⟨t, ht, by rw [i.vector_eq]⟩, fun e he => ?_⟩
  have he' : push16 { s with ifReg := s.ifReg &&& ~~~(1#8 <<< i.bit), ime := false, halted := false } s.pc =
      .error e := he
  rw [dispatch, he']

/-- Settles O51: the dispatch leaves PC on the top of the stack, and RETI pops it. -/
theorem handlerReturnsWhereItWasEntered : Obligations.HandlerReturnsWhereItWasEntered := by
  unfold Obligations.HandlerReturnsWhereItWasEntered
  intro s i h1 h2
  obtain ⟨u, hu, hlo, hhi⟩ := pushed_read_back (s := s.acknowledged i) s.pc h1 h2
  have hd : dispatch s i = .ok (u.putCpu (s.entered i)) := by
    rw [dispatch_eq_storeAll, show s.pushed s.pc = (s.acknowledged i).pushed s.pc from rfl, hu]
    rfl
  have htop : StackTop (u.putCpu (s.entered i)) s.sp s.pc := ⟨rfl, hlo, hhi⟩
  exact ⟨_, _, hd, done_next.mpr (returnFromInterrupt_ok.mpr ⟨_, _, htop.pop16, rfl⟩), rfl, rfl, rfl, rfl, rfl⟩

end Sys2Proof.Machine
end

section
/-! PROOFS. No step depends on DMA_CYCLES or INT_DISPATCH_CYCLES but in its counts (spec/20_memory.md R92,
spec/60_exceptions.md R410, decisions D17 and D19): two states that differ in the parameters and the counts alone stay
so through each phase of a step. -/

namespace Sys2Proof.Machine

section
variable {dma int : Nat}

/-- `s'` is `s` with the timing parameters `dma` and `int`, other counts, and the same instruction cycles. -/
def Retimed (dma int : Nat) (s s' : State) : Prop :=
  ∃ c : Cycles, c.instruction = s.cycles.instruction ∧ s' = s.retimed dma int c

/-- The same access under other timing parameters: it answers the retimed state, or the same fault. -/
inductive RetimedAccess (dma int : Nat) : Except Fault State → Except Fault State → Prop
  | ok {t t' : State} (h : Retimed dma int t t') : RetimedAccess dma int (.ok t) (.ok t')
  | error (e : Fault) : RetimedAccess dma int (.error e) (.error e)

/-- The same outcome under other timing parameters. -/
inductive RetimedOut (dma int : Nat) : Out → Out → Prop
  | next {t t' : State} (h : Retimed dma int t t') : RetimedOut dma int (.next t) (.next t')
  | fault (e : Fault) : RetimedOut dma int (.fault e) (.fault e)
  | refused (r : Refusal) : RetimedOut dma int (.refused r) (.refused r)

theorem RetimedAccess.done {x y : Except Fault State} (h : RetimedAccess dma int x y) :
    RetimedOut dma int (done x) (done y) := by
  cases h with
  | ok h => exact .next h
  | error e => exact .fault e

theorem RetimedAccess.bind {x y : Except Fault State} {f g : State → Except Fault State}
    (h : RetimedAccess dma int x y) (hf : ∀ {t t'}, Retimed dma int t t' → RetimedAccess dma int (f t) (g t')) :
    RetimedAccess dma int (x.bind f) (y.bind g) := by
  cases h with
  | ok h => exact hf h
  | error e => exact .error e

/-! ## Reads -/

theorem Retimed.busRead_eq {s s' : State} (h : Retimed dma int s s') (a : Word) : busRead s' a = busRead s a := by
  obtain ⟨c, -, rfl⟩ := h
  rfl

theorem Retimed.readAll_eq {s s' : State} (h : Retimed dma int s s') (l : List Word) : readAll s' l = readAll s l := by
  induction l with
  | nil => rfl
  | cons a rest ih => rw [readAll, readAll, h.busRead_eq, ih]

theorem Retimed.accesses_eq {s s' : State} (h : Retimed dma int s s') (i : Instr) :
    s'.loads i = s.loads i ∧ s'.stores i = s.stores i := by
  obtain ⟨c, -, rfl⟩ := h
  exact ⟨rfl, rfl⟩

/-! ## Writes -/

theorem dmaCopy_retimed (src : Word) (s : State) (c : Cycles) (l : List Nat) :
    dmaCopy src (s.retimed dma int c) l = (dmaCopy src s l).map (·.retimed dma int c) := by
  induction l generalizing s with
  | nil => rfl
  | cons i rest ih =>
    have hread : busRead (s.retimed dma int c) (src + BitVec.ofNat 16 i) = busRead s (src + BitVec.ofNat 16 i) := rfl
    rw [dmaCopy, dmaCopy, dmaByte, dmaByte, hread]
    cases busRead s (src + BitVec.ofNat 16 i) with
    | error e => rfl
    | ok b => exact ih { s with periph := s.periph.oamDmaWrite i b }

/-- The DMA alone reads a timing parameter, and only adds it to its count. -/
theorem Retimed.busWrite {s s' : State} (h : Retimed dma int s s') (a : Word) (v : Byte) :
    RetimedAccess dma int (busWrite s a v) (busWrite s' a v) := by
  obtain ⟨c, hc, rfl⟩ := h
  unfold Machine.busWrite
  cases route a with
  | dmaTrigger =>
    simp only [dmaWrite]
    rw [dmaCopy_retimed (ofBytes v 0) s c]
    cases ht : dmaCopy (ofBytes v 0) s (List.range 0xA0) with
    | error e => exact .error e
    | ok t =>
      have hcycles : t.cycles = s.cycles := by rw [dmaCopy_frame ht]
      exact .ok ⟨{ c with dma := c.dma + dma }, hc.trans (congrArg Cycles.instruction hcycles).symm, rfl⟩
  | extRam i =>
    have hext : (s.retimed dma int c).extRamAccess a i = s.extRamAccess a i := rfl
    simp only [hext]
    rcases s.extRamAccess a i with e | (_ | k)
    · exact .error e
    · exact .ok ⟨c, hc, rfl⟩
    · exact .ok ⟨c, hc, rfl⟩
  | hole => exact .error _
  | _ => exact .ok ⟨c, hc, rfl⟩

theorem Retimed.storeAll {s s' : State} (h : Retimed dma int s s') (l : List (Word × Byte)) :
    RetimedAccess dma int (storeAll s l) (storeAll s' l) := by
  induction l generalizing s s' with
  | nil => exact .ok h
  | cons p rest ih =>
    rw [storeAll_cons, storeAll_cons]
    exact (h.busWrite p.1 p.2).bind ih

/-! ## Executions -/

/-- An instruction adds the same instruction cycles under other timing parameters: they depend on the flags alone. -/
theorem Retimed.instructionCycles {s s' t t' : State} {i : Instr} (h : Retimed dma int s s')
    (ht : Machine.exec i s = .next t) (ht' : Machine.exec i s' = .next t') :
    t'.cycles.instruction = t.cycles.instruction := by
  rw [chargesItsCost i s t ht, chargesItsCost i s' t' ht']
  obtain ⟨c, hc, rfl⟩ := h
  have hextra : (s.retimed dma int c).takenExtra i = s.takenExtra i := takenExtra_congr rfl i
  exact congrArg₂ (· + ·) hc hextra

/-- Stores and then an update of the CPU, with equal instruction cycles at the end. -/
theorem RetimedAccess.putCpu {x y : Except Fault State} {cpu cpu' : State} (h : RetimedAccess dma int x y)
    (hcpu : ∃ c, cpu' = cpu.retimed dma int c)
    (hcycles : ∀ t t', x.map (·.putCpu cpu) = .ok t → y.map (·.putCpu cpu') = .ok t' →
      t'.cycles.instruction = t.cycles.instruction) :
    RetimedAccess dma int (x.map (·.putCpu cpu)) (y.map (·.putCpu cpu')) := by
  cases h with
  | error e => exact .error e
  | @ok u u' h =>
    have heq := hcycles _ _ rfl rfl
    obtain ⟨c, -, rfl⟩ := h
    obtain ⟨c', rfl⟩ := hcpu
    exact .ok ⟨_, heq, rfl⟩

/-- An execution is its loads, its stores and an update of the CPU, each of which does the same. -/
theorem Retimed.exec {s s' : State} (h : Retimed dma int s s') (i : Instr) :
    RetimedOut dma int (exec i s) (exec i s') := by
  rcases exists_cpuPart i with (⟨n, rfl⟩ | ⟨op, hop⟩) | ⟨cpu, hc⟩
  · obtain ⟨c, -, rfl⟩ := h
    rw [exec_stop, exec_stop]
    exact .fault _
  · rw [exec_undefined hop, exec_undefined hop]
    exact .fault _
  · obtain ⟨hloads, hstores⟩ := h.accesses_eq i
    have hcycles := fun t t' => h.instructionCycles (i := i) (t := t) (t' := t')
    have hcpu : ∃ c, cpu s' = (cpu s).retimed dma int c := by
      obtain ⟨c, -, rfl⟩ := h
      exact hc.untimed s dma int c
    simp only [hc.exec_eq, hloads, hstores, State.perform, h.readAll_eq] at hcycles ⊢
    cases hr : readAll s (s.loads i) with
    | error e => exact .fault e
    | ok x =>
      simp only [hr, done_next] at hcycles
      exact ((h.storeAll (s.stores i)).putCpu hcpu hcycles).done

/-! ## Steps -/

theorem Retimed.interruptCheck {s s' : State} (h : Retimed dma int s s') :
    RetimedAccess dma int (interruptCheck s) (interruptCheck s') := by
  obtain ⟨c, hc, rfl⟩ := id h
  unfold Machine.interruptCheck
  cases s.ime with
  | false => exact .ok h
  | true =>
    simp only [if_true]
    cases readySource s.ifReg s.ieReg with
    | none => exact .ok h
    | some i =>
      simp only [dispatch_eq_storeAll]
      have hack : Retimed dma int (s.acknowledged i) ((s.retimed dma int c).acknowledged i) := ⟨c, hc, rfl⟩
      refine (hack.storeAll _).putCpu ⟨_, rfl⟩ fun t t' ht ht' => ?_
      have hcost := dispatch_cycles ((dispatch_eq_storeAll s i).trans ht)
      have hcost' := dispatch_cycles ((dispatch_eq_storeAll (s.retimed dma int c) i).trans ht')
      rw [hcost, hcost']
      exact hc

theorem Retimed.finishStep {s s' : State} (h : Retimed dma int s s') :
    RetimedOut dma int (finishStep s) (finishStep s') := by
  obtain ⟨c, hc, rfl⟩ := h
  refine (Retimed.interruptCheck (s := updatePeriph s) ⟨c, hc, ?_⟩).done
  rw [updatePeriph, updatePeriph, hc]
  rfl

theorem beginStep_retimed (s : State) (c : Cycles) :
    Retimed dma int (beginStep s) (beginStep (s.retimed dma int c)) := ⟨_, rfl, rfl⟩

theorem Retimed.step (s : State) (c : Cycles) : RetimedOut dma int (step s) (step (s.retimed dma int c)) := by
  have hbegin := beginStep_retimed (dma := dma) (int := int) s c
  have hfetch : decodeAt (beginStep (s.retimed dma int c)) s.pc = decodeAt (beginStep s) s.pc :=
    (decodeAt_congr hbegin.busRead_eq s.pc).2
  unfold Machine.step stepWith
  by_cases hh : (beginStep s).halted = true
  · have hh' : (beginStep (s.retimed dma int c)).halted = true := hh
    rw [if_pos hh, if_pos hh']
    exact Retimed.finishStep ⟨_, rfl, rfl⟩
  · have hh' : ¬ (beginStep (s.retimed dma int c)).halted = true := hh
    rw [if_neg hh, if_neg hh', beginStep_pc, beginStep_pc, hfetch]
    cases decodeAt (beginStep s) s.pc with
    | error e => exact .fault e
    | ok f =>
      have hadv : Retimed dma int (advance (beginStep s) f) (advance (beginStep (s.retimed dma int c)) f) :=
        ⟨_, rfl, rfl⟩
      have hexec := hadv.exec f.instr
      dsimp only
      generalize Machine.exec f.instr (advance (beginStep s) f) = r,
        Machine.exec f.instr (advance (beginStep (s.retimed dma int c)) f) = r' at hexec ⊢
      cases hexec with
      | next h => exact h.finishStep
      | fault e => exact .fault e
      | refused x => exact .refused x

theorem RetimedOut.of_next {t : State} {r : Out} (h : RetimedOut dma int (.next t) r) :
    ∃ c : Cycles, c.instruction = t.cycles.instruction ∧ r = .next (t.retimed dma int c) := by
  obtain ⟨c, hc, rfl⟩ := h
  exact ⟨c, hc, rfl⟩

theorem RetimedOut.of_fault {e : Fault} {r : Out} (h : RetimedOut dma int (.fault e) r) : r = .fault e := by
  cases h
  rfl

end

/-- Settles O57: a step of the retimed state is the retimed step, and keeps the parameters. -/
theorem timingParametersChangeOnlyCycleCounts : Obligations.TimingParametersChangeOnlyCycleCounts := by
  unfold Obligations.TimingParametersChangeOnlyCycleCounts
  intro s dma int before p
  have h : RetimedOut dma int (step s) (step (s.retimed dma int before)) := Retimed.step s before
  refine ⟨fun t ht => ?_, fun e he => ?_⟩
  · rw [ht] at h
    obtain ⟨c, hc, hstep⟩ := h.of_next
    refine ⟨c, hc, hstep.trans ?_⟩
    rw [State.retimed, (step_keepsInv ht).config.params]
  · rw [he] at h
    exact h.of_fault

end Sys2Proof.Machine
end

section
/-! PROOFS. The encoder and the decoder are inverse to each other, and the `0xCB` page (spec/30_encoding.md R120 to
R133, spec/45_system.md R376). -/

namespace Sys2Proof.Machine

/-! ## Decoding gives an encoded instruction back -/

/-- The bytes of the instruction, followed by any others, decode to it. -/
def DecodesBack (i : Instr) : Prop :=
  ∀ rest, ∃ cycles, decode (encode i ++ rest) = .ok i (encode i).length cycles

/-- An instruction with a word decodes back: its low byte and high byte make the word again. -/
theorem decodesBack_word {f : Word → Instr} {op : Byte} (nn : Word) (hcb : op ≠ 0xCB) (hlen : opLength op = 3)
    (he : encode (f nn) = [op, loByte nn, hiByte nn]) (hd : decodePrimary op 0 nn = f nn) : DecodesBack (f nn) := by
  intro rest
  have h := decode_three hcb hlen (loByte nn) (hiByte nn) rest
  rw [ofBytes_hiByte_loByte, hd] at h
  rw [he]
  exact ⟨_, h⟩

theorem decodesBack_incSrc (src : Src8) : DecodesBack (.incSrc src) := by
  rcases src with (_ | _ | _ | _ | _ | _ | _) | _ <;> exact fun _ => ⟨_, rfl⟩

theorem decodesBack_decSrc (src : Src8) : DecodesBack (.decSrc src) := by
  rcases src with (_ | _ | _ | _ | _ | _ | _) | _ <;> exact fun _ => ⟨_, rfl⟩

theorem decodesBack_aluSrc (op : AluOp) (src : Src8) : DecodesBack (.aluSrc op src) := by
  cases op <;> rcases src with (_ | _ | _ | _ | _ | _ | _) | _ <;> exact fun _ => ⟨_, rfl⟩

theorem decodesBack_rotSrc (op : RotOp) (src : Src8) : DecodesBack (.rotSrc op src) := by
  cases op <;> rcases src with (_ | _ | _ | _ | _ | _ | _) | _ <;> exact fun _ => ⟨_, rfl⟩

theorem decodesBack_bitSrc (b : Ix8) (src : Src8) : DecodesBack (.bitSrc b src) := by
  cases b <;> rcases src with (_ | _ | _ | _ | _ | _ | _) | _ <;> exact fun _ => ⟨_, rfl⟩

theorem decodesBack_resSrc (b : Ix8) (src : Src8) : DecodesBack (.resSrc b src) := by
  cases b <;> rcases src with (_ | _ | _ | _ | _ | _ | _) | _ <;> exact fun _ => ⟨_, rfl⟩

theorem decodesBack_setSrc (b : Ix8) (src : Src8) : DecodesBack (.setSrc b src) := by
  cases b <;> rcases src with (_ | _ | _ | _ | _ | _ | _) | _ <;> exact fun _ => ⟨_, rfl⟩

theorem encode_undefined {i : Instr} {op : Byte} (h : i.undefinedByte = some op) :
    op ≠ 0xCB ∧ encode i = [op] ∧ decodePrimary op 0 0 = i := by
  have hall : ∀ p ∈ undefinedOpcodes, p.2 ≠ 0xCB ∧ encode p.1 = [p.2] ∧ decodePrimary p.2 0 0 = p.1 := by decide
  exact hall _ (mem_undefinedOpcodes.mpr h)

theorem decodesBack_undefined {i : Instr} {op : Byte} (h : i.undefinedByte = some op) : DecodesBack i := by
  obtain ⟨hcb, he, hd⟩ := encode_undefined h
  intro rest
  rw [he, ← hd]
  exact ⟨_, decode_one hcb (decode_undefined h).1 rest⟩

/-- Every instruction of the maps decodes back, family by family. -/
theorem decodesBack {i : Instr} (hwf : i.wellFormed = true) : DecodesBack i := by
  induction i using Instr.byFamily with
  | jrCond cc e => cases cc <;> exact fun _ => ⟨_, rfl⟩
  | ldMNNSP nn => exact decodesBack_word nn (by decide) rfl rfl rfl
  | ldRpNN rr nn => cases rr <;> exact decodesBack_word nn (by decide) rfl rfl rfl
  | ldMNNA nn => exact decodesBack_word nn (by decide) rfl rfl rfl
  | ldAMNN nn => exact decodesBack_word nn (by decide) rfl rfl rfl
  | jpNN nn => exact decodesBack_word nn (by decide) rfl rfl rfl
  | jpCond cc nn => cases cc <;> exact decodesBack_word nn (by decide) rfl rfl rfl
  | callNN nn => exact decodesBack_word nn (by decide) rfl rfl rfl
  | callCond cc nn => cases cc <;> exact decodesBack_word nn (by decide) rfl rfl rfl
  | addHLRp rr => cases rr <;> exact fun _ => ⟨_, rfl⟩
  | incRp rr => cases rr <;> exact fun _ => ⟨_, rfl⟩
  | decRp rr => cases rr <;> exact fun _ => ⟨_, rfl⟩
  | incSrc src => exact decodesBack_incSrc src
  | decSrc src => exact decodesBack_decSrc src
  | ldSrcN_reg dst n => cases dst <;> exact fun _ => ⟨_, rfl⟩
  | ldRR dst src => cases dst <;> cases src <;> exact fun _ => ⟨_, rfl⟩
  | ldRMHL dst => cases dst <;> exact fun _ => ⟨_, rfl⟩
  | ldMHLR src => cases src <;> exact fun _ => ⟨_, rfl⟩
  | aluSrc op src => exact decodesBack_aluSrc op src
  | aluN op n => cases op <;> exact fun _ => ⟨_, rfl⟩
  | retCond cc => cases cc <;> exact fun _ => ⟨_, rfl⟩
  | popRp rr => cases rr <;> exact fun _ => ⟨_, rfl⟩
  | pushRp rr => cases rr <;> exact fun _ => ⟨_, rfl⟩
  | rstY y => cases y <;> exact fun _ => ⟨_, rfl⟩
  | prefixCB second => exact absurd hwf Bool.false_ne_true
  | rotSrc op src => exact decodesBack_rotSrc op src
  | bitSrc b src => exact decodesBack_bitSrc b src
  | resSrc b src => exact decodesBack_resSrc b src
  | setSrc b src => exact decodesBack_setSrc b src
  | undefined i op h => exact decodesBack_undefined h
  | _ => exact fun _ => ⟨_, rfl⟩

/-! ## Encoding gives the decoded bytes back -/

/-- Only the row of `0xCB` encodes to bytes that begin with `0xCB` and is no instruction. -/
theorem wellFormed_of_encode {i : Instr} {op : Byte} {rest : List Byte} (h : encode i = op :: rest) (hcb : op ≠ 0xCB) :
    i.wellFormed = true := by
  cases i with
  | prefixCB second => exact absurd (List.cons.inj h).1.symm hcb
  | _ => rfl

/-- The opcodes of two bytes but `0xCB`, and those of three (R120). -/
def twoByteOpcodes : List Byte :=
  [0x06, 0x0E, 0x10, 0x16, 0x18, 0x1E, 0x20, 0x26, 0x28, 0x2E, 0x30, 0x36, 0x38, 0x3E, 0xC6, 0xCE, 0xD6, 0xDE, 0xE0,
    0xE6, 0xE8, 0xEE, 0xF0, 0xF6, 0xF8, 0xFE]

def threeByteOpcodes : List Byte :=
  [0x01, 0x08, 0x11, 0x21, 0x31, 0xC2, 0xC3, 0xC4, 0xCA, 0xCC, 0xCD, 0xD2, 0xD4, 0xDA, 0xDC, 0xEA, 0xFA]

theorem mem_twoByteOpcodes : ∀ op : Byte, op ≠ 0xCB → opLength op = 2 → op ∈ twoByteOpcodes := by decide

theorem mem_threeByteOpcodes : ∀ op : Byte, opLength op = 3 → op ∈ threeByteOpcodes := by decide

theorem encode_decodePrimary_one :
    ∀ op : Byte, op ≠ 0xCB → opLength op = 1 → encode (decodePrimary op 0 0) = [op] := by
  decide

theorem encode_decodePrimary_two {op : Byte} (hcb : op ≠ 0xCB) (hlen : opLength op = 2) (n : Byte) :
    encode (decodePrimary op n 0) = [op, n] := by
  have hop := mem_twoByteOpcodes op hcb hlen
  unfold twoByteOpcodes at hop
  fin_cases hop <;> rfl

theorem encode_decodePrimary_three {op : Byte} (hlen : opLength op = 3) (nn : Word) :
    encode (decodePrimary op 0 nn) = [op, loByte nn, hiByte nn] := by
  have hop := mem_threeByteOpcodes op hlen
  unfold threeByteOpcodes at hop
  fin_cases hop <;> rfl

/-- The page's instructions have their second byte as the fields say (R131). -/
theorem encode_decodeCB :
    ∀ second : Byte, encode (decodeCB second) = [0xCB, second] ∧ (decodeCB second).wellFormed = true := by
  decide

/-- The bytes begin with the encoding of an instruction of that size. -/
def BeginsWith (bytes : List Byte) (i : Instr) (size : Nat) : Prop :=
  i.wellFormed = true ∧ ∃ rest, bytes = encode i ++ rest ∧ size = (encode i).length

theorem beginsWith_of_encode {i : Instr} {op : Byte} {imm : List Byte} (hcb : op ≠ 0xCB)
    (he : encode i = op :: imm) (rest : List Byte) : BeginsWith (op :: imm ++ rest) i (imm.length + 1) :=
  ⟨wellFormed_of_encode he hcb, rest, by rw [he], by rw [he]; rfl⟩

/-- An opcode of two or three bytes alone holds no instruction. -/
theorem decode_missing {op : Byte} (hcb : op ≠ 0xCB) (hlen : opLength op ≠ 1) :
    decode [op] = .reject (.missingByte op) := by
  rcases opLength_cases op with h | h | h
  · exact absurd h hlen
  · simp only [decode, if_neg hcb, h]
  · simp only [decode, if_neg hcb, h]

/-- What decodes is the first bytes of the list, as many as the opcode says. -/
theorem beginsWith_of_decode {bytes : List Byte} {i : Instr} {size cycles : Nat}
    (h : decode bytes = .ok i size cycles) : BeginsWith bytes i size := by
  match bytes with
  | [] => cases h
  | op :: tail =>
    by_cases hcb : op = 0xCB
    · subst hcb
      match tail with
      | [] => cases h
      | second :: rest =>
        obtain ⟨he, hwf⟩ := encode_decodeCB second
        cases (decode_prefix second rest).symm.trans h
        exact ⟨hwf, rest, by rw [he]; rfl, by rw [he]; rfl⟩
    · rcases opLength_cases op with hlen | hlen | hlen
      · cases (decode_one hcb hlen tail).symm.trans h
        exact beginsWith_of_encode hcb (encode_decodePrimary_one op hcb hlen) tail
      · match tail with
        | [] => cases (decode_missing hcb (by omega)).symm.trans h
        | n :: rest =>
          cases (decode_two hcb hlen n rest).symm.trans h
          exact beginsWith_of_encode hcb (encode_decodePrimary_two hcb hlen n) rest
      · match tail with
        | [] => cases (decode_missing hcb (by omega)).symm.trans h
        | [n] => simp only [decode, if_neg hcb, hlen, reduceCtorEq] at h
        | lo :: hi :: rest =>
          cases (decode_three hcb hlen lo hi rest).symm.trans h
          have he := encode_decodePrimary_three hlen (ofBytes hi lo)
          rw [loByte_ofBytes, hiByte_ofBytes] at he
          exact beginsWith_of_encode hcb he rest

/-- Settles O54: `decodesBack` and `beginsWith_of_decode`. -/
theorem decodeInvertsEncode : Obligations.DecodeInvertsEncode := by
  unfold Obligations.DecodeInvertsEncode
  refine ⟨fun i rest hwf => decodesBack hwf rest, fun bytes i size cycles h => ?_⟩
  obtain ⟨hwf, rest, rfl, rfl⟩ := beginsWith_of_decode h
  exact ⟨hwf, by simp, by simp⟩

/-! ## The page of `0xCB` -/

theorem decodeCB_eq_of_decode {second : Byte} {i : Instr} {size cycles : Nat}
    (h : decode [0xCB, second] = .ok i size cycles) : decodeCB second = i :=
  (Decoded.ok.inj ((decode_prefix second []).symm.trans h)).1

/-- Settles O27: the fields of the second byte select the row, and what decodes is well-formed. -/
theorem prefixSelectsThePage : Obligations.PrefixSelectsThePage := by
  unfold Obligations.PrefixSelectsThePage
  refine ⟨fun second rest s => ⟨decode_prefix second rest, exec_prefixCB_eq_decodeCB second s⟩, fun op b src => ?_, rfl,
    fun bytes i size cycles second h hi => ?_⟩
  · exact ⟨decodeCB_eq_of_decode (decode_rotSrc op src), decodeCB_eq_of_decode (decode_bitSrc b src),
      decodeCB_eq_of_decode (decode_resSrc b src), decodeCB_eq_of_decode (decode_setSrc b src)⟩
  · subst hi
    exact absurd (beginsWith_of_decode h).1 Bool.false_ne_true

/-- Settles O60: each by evaluating the decoder. -/
theorem knownBytesDecode : Obligations.KnownBytesDecode := by
  unfold Obligations.KnownBytesDecode
  decide

end Sys2Proof.Machine
end

section
/-! PROOFS. The one-operand operations of the accumulator and of the registers, in exact integers (spec/41_alu8.md R249
to R257), and the pairs and the stack offset (spec/42_alu16.md R280 to R284). -/

namespace Sys2Proof.Machine

/-! ## INC and DEC -/

/-- INC with its half-carry from a low nibble of 15 (R249). -/
theorem inc8_eq (v : Byte) (cy : Bool) :
    inc8 v cy =
      { value := v + 1, z := decide (v + 1 = 0), n := false, h := decide (v.toNat % 16 = 15), cy := cy } := by
  have hlow : (v &&& 0xF == 0xF) = decide (v.toNat % 16 = 15) := by
    rw [beq_eq_decide, decide_eq_decide, ← BitVec.toNat_inj, toNat_and_0xF]
    rfl
  rw [inc8, hlow, beq_eq_decide]

theorem decode_incSrc_reg (r : R8) : decode [opByte 0 r.index 4] = .ok (.incSrc (.reg r)) 1 4 := by
  cases r <;> rfl

/-- Settles O15: INC is the shared rewrite of an operand by `inc8`. -/
theorem incrementOfAByte : Obligations.IncrementOfAByte := by
  unfold Obligations.IncrementOfAByte
  intro r s flags
  have hreg := (exec_incSrc (.reg r) s).trans (modifyOperand_reg r _ s)
  have hmem := rewritesByte_of_modifyOperand (exec_incSrc .atHL s)
  simp only [inc8_eq] at hreg hmem
  exact ⟨decode_incSrc_reg r, hreg, rfl, hmem⟩

/-- The state with a register and the flags of a result written (R249, R251). -/
def State.modified (s : State) (r : R8) (res : Result8) : State :=
  { s with regs := { s.regs.set r res.value with f := withFlags s.regs.f res.z res.n res.h res.cy } }

theorem State.modified_get (s : State) (r q : R8) (res : Result8) :
    (s.modified r res).regs.get q = if q = r then res.value else s.regs.get q := by
  cases r <;> cases q <;> rfl

theorem State.modified_cy (s : State) (r : R8) (res : Result8) : (s.modified r res).flag .cy = res.cy :=
  getFlag_withFlags_cy _ _ _ _ _

/-- Two rewrites of a register that undo each other and keep CY leave every register and CY. -/
theorem modifyOperand_cancel {i j : Instr} {f g : Byte → Bool → Result8} (r : R8) (s : State)
    (hi : ∀ s, exec i s = modifyOperand (.reg r) (f · (s.flag .cy)) s)
    (hj : ∀ s, exec j s = modifyOperand (.reg r) (g · (s.flag .cy)) s)
    (hvalue : ∀ v cy cy', (g (f v cy).value cy').value = v)
    (hcy : ∀ v cy, (f v cy).cy = cy ∧ (g v cy).cy = cy) :
    ∃ t u, exec i s = .next t ∧ exec j t = .next u ∧
      (∀ q, u.regs.get q = s.regs.get q) ∧ getFlag u.regs.f .cy = getFlag s.regs.f .cy := by
  let t := s.modified r (f (s.regs.get r) (s.flag .cy))
  let u := t.modified r (g (t.regs.get r) (t.flag .cy))
  refine ⟨t, u, (hi s).trans (modifyOperand_reg r _ s), (hj t).trans (modifyOperand_reg r _ t), fun q => ?_, ?_⟩
  · have ht (q : R8) := s.modified_get r q (f (s.regs.get r) (s.flag .cy))
    rw [State.modified_get, ht, ht, if_pos rfl, hvalue]
    split
    next hq => rw [hq]
    next => rfl
  · calc u.flag .cy = t.flag .cy := (t.modified_cy r _).trans (hcy _ _).2
      _ = s.flag .cy := (s.modified_cy r _).trans (hcy _ _).1

/-- Settles O17: adding and subtracting one cancel. -/
theorem incrementAndDecrementCancel : Obligations.IncrementAndDecrementCancel := by
  unfold Obligations.IncrementAndDecrementCancel
  intro r s
  have hinc := exec_incSrc (.reg r)
  have hdec := exec_decSrc (.reg r)
  exact ⟨modifyOperand_cancel r s hinc hdec (fun v _ _ => BitVec.add_sub_cancel v 1) (fun _ _ => ⟨rfl, rfl⟩),
    modifyOperand_cancel r s hdec hinc (fun v _ _ => BitVec.sub_add_cancel v 1) (fun _ _ => ⟨rfl, rfl⟩)⟩

/-! ## DAA -/

/-- What DAA makes of A after an addition, before the result is taken modulo 256 (R254). -/
def daaSum (v : Nat) (h c : Bool) : Nat :=
  v + (if c || decide (v > 0x99) then 0x60 else 0) + (if h || decide (v % 16 > 9) then 0x06 else 0)

/-- What DAA makes of A after a subtraction (R254). -/
def daaDifference (v : Nat) (h c : Bool) : Int := (v : Int) - (if c then 0x60 else 0) - (if h then 0x06 else 0)

/-- The high adjustment leaves the low nibble. -/
theorem low_nibble_add_0x60 (v : Byte) (high : Bool) :
    decide ((if high then v + 0x60 else v) &&& 0x0F > 0x09) = decide (v.toNat % 16 > 9) := by
  rw [decide_eq_decide, gt_iff_lt, BitVec.lt_def, toNat_and_0xF]
  cases high with
  | false => exact Iff.rfl
  | true =>
    simp only [if_true, BitVec.toNat_add]
    simp
    omega

theorem daa8_add (v : Byte) (h c : Bool) :
    daa8 v false h c =
      { value := BitVec.ofNat 8 (daaSum v.toNat h c), z := decide (daaSum v.toNat h c % 256 = 0), n := false, h := false
        cy := c || decide (v.toNat > 0x99) } := by
  have hvalue : daaValue v false h c = (BitVec.ofNat 8 (daaSum v.toNat h c), c || decide (v.toNat > 0x99)) := by
    have hhigh : decide (v > 0x99) = decide (v.toNat > 0x99) := rfl
    simp only [daaValue, if_true, low_nibble_add_0x60, hhigh, daaSum]
    generalize (c || decide (v.toNat > 0x99)) = high, (h || decide (v.toNat % 16 > 9)) = low
    cases high <;> cases low <;> simp [BitVec.ofNat_add]
  simp only [daa8, hvalue, ofNat8_beq_zero]

theorem ofInt8_sub (i j : Int) : BitVec.ofInt 8 (i - j) = BitVec.ofInt 8 i - BitVec.ofInt 8 j := by
  rw [Int.sub_eq_add_neg, BitVec.ofInt_add, BitVec.ofInt_neg, BitVec.sub_eq_add_neg]

theorem daa8_sub (v : Byte) (h c : Bool) :
    daa8 v true h c =
      { value := BitVec.ofInt 8 (daaDifference v.toNat h c), z := decide (daaDifference v.toNat h c % 256 = 0)
        n := true, h := false, cy := c } := by
  have hvalue : daaValue v true h c = (BitVec.ofInt 8 (daaDifference v.toNat h c), c) := by
    cases c <;> cases h <;> simp [daaValue, daaDifference, ofInt8_sub]
  simp only [daa8, hvalue, ofInt8_beq_zero]

/-- Settles O18: `daa8` in exact integers for each value of N. -/
theorem decimalAdjust : Obligations.DecimalAdjust := by
  unfold Obligations.DecimalAdjust
  intro s v n h c high added taken
  refine ⟨rfl, fun hn => ?_, fun hn => ?_⟩
  · rw [exec_daa, show s.flag .n = false from hn, daa8_add]
    rfl
  · rw [exec_daa, show s.flag .n = true from hn, daa8_sub]
    rfl

/-! ## Two decimal digits -/

theorem exists_digits {x : Nat} (hx : x < 100) : ∃ p q, p < 10 ∧ q < 10 ∧ x = 10 * p + q :=
  ⟨x / 10, x % 10, by omega, by omega, by omega⟩

/-- The code of two digits has them sixteen apart. -/
theorem toNat_bcd {p q : Nat} (hp : p < 10) (hq : q < 10) : (bcd (10 * p + q)).toNat = 16 * p + q := by
  rw [bcd, BitVec.toNat_ofNat]
  omega

theorem cast_toNat_ofInt8 (i : Int) : ((BitVec.ofInt 8 i).toNat : Int) = i % 256 := by
  rw [BitVec.toNat_ofInt]
  omega

section Digits

variable {p q t u : Nat} (hp : p < 10) (hq : q < 10) (ht : t < 10) (hu : u < 10)

include hp hq ht hu

/-- What makes DAA adjust a digit of a sum of codes is that the digit carries. -/
theorem daa_adjusts_carries :
    let v := (16 * p + q + (16 * t + u)) % 256
    (decide ((16 * p + q) % 16 + (16 * t + u) % 16 > 0xF) || decide (v % 16 > 9)) = decide (10 ≤ q + u) ∧
      (decide (16 * p + q + (16 * t + u) > 0xFF) || decide (v > 0x99)) =
        decide (100 ≤ 10 * p + q + (10 * t + u)) := by
  intro v
  rw [← Bool.decide_or, ← Bool.decide_or, decide_eq_decide, decide_eq_decide]
  omega

/-- The adjusted sum: 6 for each carry, which is what a carry lacks when digits are sixteen apart. -/
theorem adjusted_sum {k l m h : Nat} (hl : l < 10) (hh : h < 10) (hlow : q + u = 10 * k + l)
    (hhigh : p + t + k = 10 * m + h) :
    ((16 * p + q + (16 * t + u)) % 256 + (if 100 ≤ 10 * p + q + (10 * t + u) then 0x60 else 0) +
      if 10 ≤ q + u then 0x06 else 0) % 256 = 16 * h + l := by
  have hk : (if 10 ≤ q + u then 0x06 else 0) = 6 * k := by split_ifs <;> omega
  have hm : (if 100 ≤ 10 * p + q + (10 * t + u) then 0x60 else 0) = 96 * m := by split_ifs <;> omega
  rw [hk, hm]
  omega

theorem daa_add_bcd :
    let r := add8 (bcd (10 * p + q)) (bcd (10 * t + u)) false
    let z := 10 * p + q + (10 * t + u)
    (daa8 r.value r.n r.h r.cy).value = bcd (z % 100) ∧ (daa8 r.value r.n r.h r.cy).cy = decide (100 ≤ z) := by
  intro r z
  obtain ⟨k, l, hl, hlow⟩ : ∃ k l, l < 10 ∧ q + u = 10 * k + l := ⟨(q + u) / 10, (q + u) % 10, by omega, by omega⟩
  obtain ⟨m, h, hh, hhigh⟩ : ∃ m h, h < 10 ∧ p + t + k = 10 * m + h :=
    ⟨(p + t + k) / 10, (p + t + k) % 10, by omega, by omega⟩
  have hz : z % 100 = 10 * h + l := by omega
  obtain ⟨hadjLow, hadjHigh⟩ := daa_adjusts_carries hp hq ht hu
  simp only [r, add8_eq, daa8_add, daaSum, toNat_bcd hp hq, toNat_bcd ht hu, BitVec.toNat_ofNat, Bool.toNat_false,
    Nat.add_zero, Nat.reducePow, hadjLow, hadjHigh, decide_eq_true_eq]
  refine ⟨BitVec.eq_of_toNat_eq ?_, rfl⟩
  rw [hz, toNat_bcd hh hl, BitVec.toNat_ofNat]
  exact adjusted_sum hp hq ht hu hl hh hlow hhigh

/-- The adjusted difference: 6 less for each digit that borrows. -/
theorem adjusted_difference {k l m h : Nat} (hl : l < 10) (hh : h < 10) (hlow : q + 10 * k = u + l)
    (hhigh : p + 10 * m = t + k + h) :
    (((16 * p + q : Nat) - (16 * t + u : Nat) : Int) % 256 - (if 10 * p + q < 10 * t + u then 0x60 else 0) -
      if q < u then 0x06 else 0) % 256 = (16 * h + l : Nat) := by
  have hk : (if q < u then 0x06 else 0) = (6 * k : Int) := by split_ifs <;> omega
  have hm : (if 10 * p + q < 10 * t + u then 0x60 else 0) = (96 * m : Int) := by split_ifs <;> omega
  rw [hk, hm]
  omega

theorem daa_sub_bcd :
    let r := sub8 (bcd (10 * p + q)) (bcd (10 * t + u)) false
    let z := 100 + (10 * p + q) - (10 * t + u)
    (daa8 r.value r.n r.h r.cy).value = bcd (z % 100) ∧
      (daa8 r.value r.n r.h r.cy).cy = decide (10 * p + q < 10 * t + u) := by
  intro r z
  obtain ⟨k, l, hl, hlow⟩ : ∃ k l, l < 10 ∧ q + 10 * k = u + l :=
    ⟨(9 + u - q) / 10, (10 + q - u) % 10, by omega, by omega⟩
  obtain ⟨m, h, hh, hhigh⟩ : ∃ m h, h < 10 ∧ p + 10 * m = t + k + h :=
    ⟨(9 + t + k - p) / 10, (20 + p - t - k) % 10, by omega, by omega⟩
  have hz : z % 100 = 10 * h + l := by omega
  have hborrowLow : (16 * p + q) % 16 < (16 * t + u) % 16 ↔ q < u := by omega
  have hborrow : 16 * p + q < 16 * t + u ↔ 10 * p + q < 10 * t + u := by omega
  simp only [r, sub8_eq, daa8_sub, daaDifference, toNat_bcd hp hq, toNat_bcd ht hu, Bool.toNat_false, Nat.add_zero,
    Nat.cast_zero, sub_zero, cast_toNat_ofInt8, hborrowLow, hborrow, decide_eq_true_eq]
  refine ⟨BitVec.eq_of_toNat_eq ?_, trivial⟩
  rw [hz, toNat_bcd hh hl, BitVec.toNat_ofInt]
  exact congrArg Int.toNat (adjusted_difference hp hq ht hu hl hh hlow hhigh)

end Digits

/-- DAA after an addition or subtraction that stores its result adjusts that result. -/
theorem aluN_then_daa {op : AluOp} (b : Byte) (s : State) {r : Result8} (hr : alu8 op s.regs.a b (s.flag .cy) = r)
    (hstored : aluStored op s.regs.a r = r.value) :
    ∃ t u, exec (.aluN op b) s = .next t ∧ exec .daa t = .next u ∧
      u.regs.a = (daa8 r.value r.n r.h r.cy).value ∧ getFlag u.regs.f .cy = (daa8 r.value r.n r.h r.cy).cy := by
  let t := (s.setReg .a r.value).setResultFlags r
  have ht : exec (.aluN op b) s = .next t := by
    obtain ⟨himm, -⟩ := aluGives_aluState op b s
    simp only [himm, aluState, hr, hstored, t]
  refine ⟨t, _, ht, exec_daa t, ?_, ?_⟩
  · simp [t, storeA, State.flag, Regs.set]
  · simp [t, storeA, State.flag, Regs.set]

/-- Settles O19: DAA makes the decimal result of the binary one. -/
theorem decimalAdjustGivesDecimalArithmetic : Obligations.DecimalAdjustGivesDecimalArithmetic := by
  unfold Obligations.DecimalAdjustGivesDecimalArithmetic
  intro x y s hx hy ha
  obtain ⟨p, q, hp, hq, rfl⟩ := exists_digits hx
  obtain ⟨t, u, ht, hu, rfl⟩ := exists_digits hy
  obtain ⟨hsum, hcarry⟩ := daa_add_bcd hp hq ht hu
  obtain ⟨hdifference, hborrow⟩ := daa_sub_bcd hp hq ht hu
  constructor
  · obtain ⟨s1, s2, h1, h2, hvalue, hcy⟩ :=
      aluN_then_daa (op := .add) (bcd (10 * t + u)) s (by rw [ha, alu8]) rfl
    exact ⟨s1, s2, h1, h2, hvalue.trans hsum, hcy.trans hcarry⟩
  · obtain ⟨s1, s2, h1, h2, hvalue, hcy⟩ :=
      aluN_then_daa (op := .sub) (bcd (10 * t + u)) s (by rw [ha, alu8]) rfl
    exact ⟨s1, s2, h1, h2, hvalue.trans hdifference, hcy.trans hborrow⟩

/-! ## CPL, SCF and CCF -/

theorem not_eq_ofNat (v : Byte) : ~~~v = BitVec.ofNat 8 (255 - v.toNat) := by
  apply BitVec.eq_of_toNat_eq
  rw [BitVec.toNat_not, BitVec.toNat_ofNat]
  omega

/-- Settles O20: A by `not_eq_ofNat`, the flags as R255 to R257 give them. -/
theorem complementAndCarryFlag : Obligations.ComplementAndCarryFlag := by
  unfold Obligations.ComplementAndCarryFlag
  intro s z c
  refine ⟨rfl, rfl, rfl, ?_, rfl, rfl⟩
  rw [← not_eq_ofNat]
  rfl

/-! ## Pairs and the stack offset -/

theorem decode_incRp (rr : Rp) : decode [opByte 0 (2 * rr.index) 3] = .ok (.incRp rr) 1 8 := by
  cases rr <;> rfl

theorem decode_decRp (rr : Rp) : decode [opByte 0 (2 * rr.index + 1) 3] = .ok (.decRp rr) 1 8 := by
  cases rr <;> rfl

/-- Settles O21: the wrap of a sum is the sum of exact integers modulo 65536. -/
theorem pairStepsAndStackOffset : Obligations.PairStepsAndStackOffset := by
  unfold Obligations.PairStepsAndStackOffset
  intro rr e s sum f
  have hsum : s.sp + sext16 e = sum := relTarget_eq s.sp e
  refine ⟨decode_incRp rr, decode_decRp rr, ?_, ?_, rfl, ?_, rfl, ?_⟩
  · rw [exec_incRp, addToPair, BitVec.ofNat_add, BitVec.ofNat_toNat, BitVec.setWidth_eq]
    rfl
  · have hneg : BitVec.ofInt 16 (-1) = -1 := by decide
    rw [exec_decRp, addToPair, Int.sub_eq_add_neg, BitVec.ofInt_add, BitVec.ofInt_natCast, BitVec.ofNat_toNat,
      BitVec.setWidth_eq, hneg]
  · rw [exec_addSPRel, hsum]
    rfl
  · rw [exec_ldHLSPRel, hsum]
    rfl

/-! ## HALT, EI and STOP -/

/-- Settles O30: each by its arm, and the start of a step by `beginStep_eq`. -/
theorem haltEnableInterruptsAndStop : Obligations.HaltEnableInterruptsAndStop := by
  unfold Obligations.HaltEnableInterruptsAndStop
  intro n s
  refine ⟨rfl, rfl, rfl, fun h => ?_, fun h => ?_, fun h hp => ?_, rfl, rfl⟩
  · rw [exec_ei, enableInterrupts, h]
    rfl
  · rw [exec_ei, enableInterrupts, h]
    rfl
  · rw [beginStep_eq, h, hp]
    simp

/-- Settles O25: RLC is a rotate of the page. -/
theorem rotateLeftCircularOfThePrefixPage : Obligations.RotateLeftCircularOfThePrefixPage := by
  unfold Obligations.RotateLeftCircularOfThePrefixPage
  exact fun s => rotatesOperand .rlc s

end Sys2Proof.Machine
end

section
/-! PROOFS. Launch: the checksum in exact integers, the order of the header's checks, and the image of a storage
(spec/70_reset_and_hazards.md R450 to R455; spec/10_state.md R49). -/

namespace Sys2Proof.Machine

/-! ## The image of a storage -/

/-- Entries that are not stored at the index leave what it reads as. -/
theorem Memory.read_load_append {size k : Nat} (image : List Host.Cell) {after : List Host.Cell}
    (h : ∀ cell ∈ after, cell.1 < size → cell.1 ≠ k) :
    (Memory.load size (image ++ after)).read k = (Memory.load size image).read k := by
  induction after using List.reverseRecOn with
  | nil => rw [List.append_nil]
  | append_singleton rest cell ih =>
    have hrest := ih fun c hc => h c (List.mem_append_left _ hc)
    rw [← List.append_assoc, Memory.load_concat]
    split
    next hlt =>
      have hne : k ≠ cell.1 := (h cell (List.mem_append_right _ List.mem_cons_self) hlt).symm
      rw [Memory.read_write_other _ _ hne, hrest]
    next => exact hrest

theorem Memory.read_load_of_not_stored {size k : Nat} {image : List Host.Cell}
    (h : ∀ cell ∈ image, cell.1 < size → cell.1 ≠ k) : (Memory.load size image).read k = 0 :=
  Memory.read_load_append [] h

/-- The last entry for an index inside the storage is what it reads as. -/
theorem Memory.read_load_last {size k : Nat} (v : Byte) (before : List Host.Cell) {after : List Host.Cell}
    (hk : k < size) (h : ∀ cell ∈ after, cell.1 ≠ k) :
    (Memory.load size (before ++ (k, v) :: after)).read k = v := by
  rw [List.append_cons, Memory.read_load_append _ fun c hc _ => h c hc, Memory.load_concat, if_pos hk,
    Memory.read_write_same]

/-! ## The checksum -/

theorem ofInt8_toNat (b : Byte) : BitVec.ofInt 8 b.toNat = b := by
  rw [BitVec.ofInt_natCast, BitVec.ofNat_toNat, BitVec.setWidth_eq]

theorem foldl_sub_sub_one (i : Int) (bytes : List Byte) :
    bytes.foldl (fun x b => x - b - 1) (BitVec.ofInt 8 i) =
      BitVec.ofInt 8 (i - (bytes.map BitVec.toNat).sum - bytes.length) := by
  induction bytes generalizing i with
  | nil => simp
  | cons b rest ih =>
    have hstep : BitVec.ofInt 8 i - b - 1 = BitVec.ofInt 8 (i - b.toNat - 1) := by
      rw [ofInt8_sub, ofInt8_sub, ofInt8_toNat]
      rfl
    rw [List.foldl_cons, hstep, ih, List.map_cons, List.sum_cons, List.length_cons]
    congr 1
    push_cast
    omega

theorem foldl_add (i : Int) (bytes : List Byte) :
    bytes.foldl (fun x b => x + b) (BitVec.ofInt 8 i) = BitVec.ofInt 8 (i + (bytes.map BitVec.toNat).sum) := by
  induction bytes generalizing i with
  | nil => simp
  | cons b rest ih =>
    have hstep : BitVec.ofInt 8 i + b = BitVec.ofInt 8 (i + b.toNat) := by
      rw [BitVec.ofInt_add, ofInt8_toNat]
    rw [List.foldl_cons, hstep, ih, List.map_cons, List.sum_cons]
    congr 1
    push_cast
    omega

/-- The two forms of the checksum: the sum subtracted, with 1 for each byte or 1 in all (R453). -/
theorem headerChecksum_eq (form : Config.ChecksumForm) (bytes : List Byte) :
    headerChecksum form bytes = BitVec.ofInt 8
      (0 - ((bytes.map BitVec.toNat).sum : Int) - (if form = .perByte then bytes.length else 1)) := by
  cases form with
  | perByte => exact foldl_sub_sub_one 0 bytes
  | literal =>
    have hsum := foldl_add 0 bytes
    rw [zero_add] at hsum
    rw [ofInt8_sub, ofInt8_sub, ← hsum]
    rfl

/-- Over the 25 bytes of the header the two forms differ by 24 (R453). -/
theorem headerChecksum_perByte_add_24 {bytes : List Byte} (h : bytes.length = 25) :
    headerChecksum .perByte bytes + 24 = headerChecksum .literal bytes := by
  have h24 : (24 : Byte) = BitVec.ofInt 8 24 := rfl
  rw [headerChecksum_eq, headerChecksum_eq, h, h24, ← BitVec.ofInt_add]
  congr 1
  simp
  omega

/-! ## The checks of the header -/

theorem launch_of_defect {x : LaunchInput} {d : RomDefect}
    (h : romDefect x.checksumForm x.romLength (Memory.load x.romLength x.rom) = some d) :
    launch x = .error (.malformedRom d) := by
  simp only [launch, h]

theorem launch_of_no_defect {x : LaunchInput}
    (h : romDefect x.checksumForm x.romLength (Memory.load x.romLength x.rom) = none) :
    launch x = .ok (launchState x (Memory.load x.romLength x.rom)) := by
  simp only [launch, h]

theorem checksumBytes_sum (rom : Memory) :
    ((checksumBytes rom).map BitVec.toNat).sum =
      ((List.range 25).map (fun i => (rom.read (0x134 + i)).toNat)).sum := by
  rw [checksumBytes, List.map_map]
  rfl

/-- The checks in the words of R450 to R455. -/
theorem romDefect_eq (form : Config.ChecksumForm) (length : Nat) (rom : Memory) :
    romDefect form length rom =
      if 0x150 ≤ length then
        if (rom.read 0x148).toNat ≤ 8 then
          if length = 0x8000 * 2 ^ (rom.read 0x148).toNat then
            if rom.read 0x14D = BitVec.ofInt 8
              (0 - (((List.range 25).map (fun i => (rom.read (0x134 + i)).toNat)).sum : Int) -
                (if form = .perByte then 25 else 1)) then
              if rom.read 0x147 = 1 ∨ rom.read 0x147 = 2 ∨ rom.read 0x147 = 3 then
                if (rom.read 0x149).toNat ≤ 5 then none else some .ramSizeCode
              else some .cartType
            else some .checksum
          else some .length
        else some .romSizeCode
      else some .length := by
  have hlen : (checksumBytes rom).length = 25 := by simp [checksumBytes]
  have htype : acceptedType (rom.read 0x147) = false ↔
      ¬ (rom.read 0x147 = 1 ∨ rom.read 0x147 = 2 ∨ rom.read 0x147 = 3) := by
    simp [acceptedType, and_assoc]
  have hsum : headerChecksum form (checksumBytes rom) = BitVec.ofInt 8
      (0 - (((List.range 25).map (fun i => (rom.read (0x134 + i)).toNat)).sum : Int) -
        (if form = .perByte then 25 else 1)) := by
    rw [headerChecksum_eq, hlen, checksumBytes_sum, Nat.cast_ite, Nat.cast_ofNat, Nat.cast_one]
  simp only [romDefect, hsum, htype, Nat.shiftLeft_eq, ← Nat.not_le, ne_eq, gt_iff_lt, ite_not,
    eq_comm (a := rom.read 0x14D)]

/-- The length of RAM by its size code as a table (R8). -/
theorem ramLengthOf_eq {n : Nat} (h : n ≤ 5) :
    ramLengthOf n = [0, 0x800, 0x2000, 0x8000, 0x20000, 0x10000].getD n 0 := by
  interval_cases n <;> rfl

section Accepted

variable {x : LaunchInput} {rom : Memory} (hrom : (rom.read 0x148).toNat ≤ 8) (hram : (rom.read 0x149).toNat ≤ 5)

include hrom in
theorem launchState_romSizeCode : (launchState x rom).romSizeCode.val = (rom.read 0x148).toNat :=
  Nat.mod_eq_of_lt (Nat.lt_succ_of_le hrom)

include hram in
theorem launchState_ramSizeCode : (launchState x rom).ramSizeCode.val = (rom.read 0x149).toNat :=
  Nat.mod_eq_of_lt (Nat.lt_succ_of_le hram)

include hrom hram

theorem launchState_inv (hwf : rom.wf) (hwithin : rom.within (0x8000 * 2 ^ (rom.read 0x148).toNat))
    (hperiph : x.periph.Clean) : (launchState x rom).Inv where
  flags := maskF0_lowNibble _
  memory :=
    { rom_wf := hwf
      rom_within := by
        rwa [State.romLength, launchState_romSizeCode hrom, Nat.shiftLeft_eq]
      cartRam_wf := (Memory.load_clean _ _).1
      cartRam_within := by
        rw [State.ramLength, launchState_ramSizeCode hram]
        exact (Memory.load_clean _ _).2
      wram_wf := (Memory.load_clean _ _).1
      wram_within := (Memory.load_clean _ _).2
      hram_wf := (Memory.load_clean _ _).1
      hram_within := (Memory.load_clean _ _).2
      periph_clean := hperiph }
  pending := fun _ => rfl

end Accepted

/-- Settles O59: the checks in their order, the state where all pass, and the laws of loading. -/
theorem launchChecksTheHeader : Obligations.LaunchChecksTheHeader := by
  unfold Obligations.LaunchChecksTheHeader
  refine ⟨?_, fun size k v image before after => ⟨fun h => ?_, fun h => ?_, fun hk h => ?_⟩,
    fun bytes => headerChecksum_perByte_add_24⟩
  · intro x rom fails c1 c2 c3 sum c4 c5 c6
    have hdefect : romDefect x.checksumForm x.romLength rom =
        if c1 then if c2 then if c3 then if c4 then if c5 then if c6 then none else some .ramSizeCode
        else some .cartType else some .checksum else some .length else some .romSizeCode else some .length :=
      romDefect_eq _ _ _
    refine ⟨fun h1 => launch_of_defect ?_, fun h1 h2 => launch_of_defect ?_, fun h1 h2 h3 => launch_of_defect ?_,
      fun h1 h2 h3 h4 => launch_of_defect ?_, fun h1 h2 h3 h4 h5 => launch_of_defect ?_,
      fun h1 h2 h3 h4 h5 h6 => launch_of_defect ?_, fun h1 h2 h3 h4 h5 h6 => ?_⟩
    · rw [hdefect, if_neg h1]
    · rw [hdefect, if_pos h1, if_neg h2]
    · rw [hdefect, if_pos h1, if_pos h2, if_neg h3]
    · rw [hdefect, if_pos h1, if_pos h2, if_pos h3, if_neg h4]
    · rw [hdefect, if_pos h1, if_pos h2, if_pos h3, if_pos h4, if_neg h5]
    · rw [hdefect, if_pos h1, if_pos h2, if_pos h3, if_pos h4, if_pos h5, if_neg h6]
    · have hnone : romDefect x.checksumForm x.romLength rom = none := by
        rw [hdefect, if_pos h1, if_pos h2, if_pos h3, if_pos h4, if_pos h5, if_pos h6]
      obtain ⟨hwf, hwithin⟩ : rom.wf ∧ rom.within x.romLength := Memory.load_clean x.romLength x.rom
      have hlength : x.romLength = 0x8000 * 2 ^ (rom.read 0x148).toNat := h3
      rw [hlength] at hwithin
      refine ⟨launchState x rom, launch_of_no_defect hnone, rfl, rfl, rfl, rfl, rfl, rfl, rfl, rfl, rfl, rfl,
        launchState_romSizeCode h2, launchState_ramSizeCode h6, rfl, rfl, ?_, rfl, rfl,
        launchState_inv h2 h6 hwf hwithin⟩
      rw [← ramLengthOf_eq h6]
      rfl
  · exact Memory.read_load_of_not_stored fun cell _ hlt => by omega
  · exact Memory.read_load_of_not_stored fun cell hc _ => h cell hc
  · exact Memory.read_load_last v before hk h

end Sys2Proof.Machine
end
